-- ==== Sys2Proof/Word.lean ====
section
/-! DEFINITION. The two widths of the part's registers and frame fields. -/

namespace Sys2Proof

/-- One byte of a frame, a record or the transfer buffer. -/
abbrev Byte := BitVec 8

/-- A two-byte field: a counter of R37 or R173, an age, a table field of two bytes. -/
abbrev Half := BitVec 16

end Sys2Proof
end

