-- ==== Sys2Proof/Syntax.lean ====
section
/-! DEFINITION. The commands of the IW8216: one constructor for each row of spec/opcode_table.json. -/

namespace Sys2Proof

/-- The commands the part takes, one constructor for each row of the table of operations and events.

A row that is an upstream frame carries the frame's fields as they stand on the link (R165): the address
(only where the row is node addressed, or may carry any address), the tag and the raw payload.  The row is
the arrival of the frame's second check byte (R167).  A row that is the arrival of a character carries its
byte, and on the upstream link whether its stop bit was received low (R166). -/
inductive Instr where
  /-- POWER_ON_RESET (R164, R1): RESET is asserted; the strap inputs are sampled. -/
  | powerOnReset (upStrap downStrap : BitVec 2)
  /-- HUNT_BYTE (R166). -/
  | huntByte (byte : Byte) (framingFault : Bool)
  /-- UPSTREAM_CHECK_ERROR (R166): the arrival of a character that ends the frame in a check error. -/
  | upstreamCheckError (byte : Byte) (framingFault : Bool)
  /-- UPSTREAM_INTER_BYTE_EXPIRY (R166). -/
  | upstreamInterByteExpiry
  /-- FRAME_WITH_UNKNOWN_COMMAND (R169): a valid frame that steps 1 to 3 of the dispatch refuse. -/
  | frameWithUnknownCommand (addr cmd tag : Byte) (payload : List Byte)
  /-- READ_INPUT (R71). -/
  | readInput (addr tag : Byte) (payload : List Byte)
  /-- WRITE_OUTPUT (R73). -/
  | writeOutput (addr tag : Byte) (payload : List Byte)
  /-- EXCHANGE (R85). -/
  | exchange (addr tag : Byte) (payload : List Byte)
  /-- PASS (R86). -/
  | pass (addr tag : Byte) (payload : List Byte)
  /-- PROBE (R86). -/
  | probe (addr tag : Byte) (payload : List Byte)
  /-- QUERY_STATUS (R172). -/
  | queryStatus (tag : Byte) (payload : List Byte)
  /-- QUERY_NODE (R58). -/
  | queryNode (addr tag : Byte) (payload : List Byte)
  /-- READ_COUNTERS (R173). -/
  | readCounters (tag : Byte) (payload : List Byte)
  /-- READ_TABLE (R158). -/
  | readTable (tag : Byte) (payload : List Byte)
  /-- LOAD_LINE (R156). -/
  | loadLine (tag : Byte) (payload : List Byte)
  /-- LOAD_NODES (R156). -/
  | loadNodes (tag : Byte) (payload : List Byte)
  /-- LOAD_MAIN (R157). -/
  | loadMain (tag : Byte) (payload : List Byte)
  /-- LOAD_INTERLEAVE (R157). -/
  | loadInterleave (tag : Byte) (payload : List Byte)
  /-- SET_LENGTHS (R157). -/
  | setLengths (tag : Byte) (payload : List Byte)
  /-- COMMIT (R159). -/
  | commit (tag : Byte) (payload : List Byte)
  /-- DISCARD (R158). -/
  | discard (tag : Byte) (payload : List Byte)
  /-- START (R129). -/
  | start (tag : Byte) (payload : List Byte)
  /-- STOP (R130). -/
  | stop (tag : Byte) (payload : List Byte)
  /-- SUSPEND_CYCLE (R131). -/
  | suspendCycle (tag : Byte) (payload : List Byte)
  /-- RESUME_CYCLE (R131). -/
  | resumeCycle (tag : Byte) (payload : List Byte)
  /-- CLEAR_SAFE (R138). -/
  | clearSafe (tag : Byte) (payload : List Byte)
  /-- RESTART_WARM (R174). -/
  | restartWarm (tag : Byte) (payload : List Byte)
  /-- CANCEL (R94). -/
  | cancel (tag : Byte) (payload : List Byte)
  /-- NOTICE_ACK (R148). -/
  | noticeAck (tag : Byte) (payload : List Byte)
  /-- BULK_OPEN (R102). -/
  | bulkOpen (tag : Byte) (payload : List Byte)
  /-- BULK_DATA (R103). -/
  | bulkData (tag : Byte) (payload : List Byte)
  /-- BULK_START (R104). -/
  | bulkStart (tag : Byte) (payload : List Byte)
  /-- BULK_SUSPEND (R111). -/
  | bulkSuspend (tag : Byte) (payload : List Byte)
  /-- BULK_RESUME (R112). -/
  | bulkResume (tag : Byte) (payload : List Byte)
  /-- BULK_ABORT (R114). -/
  | bulkAbort (tag : Byte) (payload : List Byte)
  /-- BULK_STATUS (R118). -/
  | bulkStatus (tag : Byte) (payload : List Byte)
  /-- BULK_CLEAR (R118). -/
  | bulkClear (tag : Byte) (payload : List Byte)
  /-- UPSTREAM_FRAME_SENT (R171). -/
  | upstreamFrameSent
  /-- WARM_RESTART_TAKES_EFFECT (R174). -/
  | warmRestartTakesEffect
  /-- NOTICE_RESEND_TIMER_EXPIRY (R147). -/
  | noticeResendTimerExpiry
  /-- SILENCE_TIMER_EXPIRY (R134). -/
  | silenceTimerExpiry
  /-- MIN_PERIOD_WAIT_EXPIRY (R15). -/
  | minPeriodWaitExpiry
  /-- DEADLINE_EXPIRY (R93): the deadline of the tag named. -/
  | deadlineExpiry (tag : Byte)
  /-- BACKOFF_EXPIRY (R109). -/
  | backoffExpiry
  /-- ARBITRATION (R122). -/
  | arbitration
  /-- GAP_TIMER_EXPIRY (R29). -/
  | gapTimerExpiry
  /-- LAST_CHARACTER_SENT (R31). -/
  | lastCharacterSent
  /-- STRAY_BYTE (R37). -/
  | strayByte (byte : Byte)
  /-- REPLY_SYNC_ARRIVAL (R32): the byte 0xC6 arrives in AWAITING. -/
  | replySyncArrival
  /-- REPLY_FRAME_RECEIVED (R35): the second check byte arrives. -/
  | replyFrameReceived (byte : Byte)
  /-- REPLY_TIMER_EXPIRY (R32). -/
  | replyTimerExpiry
  /-- DOWNSTREAM_INTER_BYTE_EXPIRY (R34). -/
  | downstreamInterByteExpiry
  /-- COMMIT_APPLICATION (R162). -/
  | commitApplication
  /-- TIMEBASE_TICK (R63). -/
  | timebaseTick
  /-- REPLY_BYTE_COLLECTED (R33). -/
  | replyByteCollected (byte : Byte)
  /-- DOWNSTREAM_CHARACTER_START (R27). -/
  | downstreamCharacterStart
  /-- UPSTREAM_BYTE_COLLECTED (R166). -/
  | upstreamByteCollected (byte : Byte)
  /-- UPSTREAM_CHARACTER_START (R166). -/
  | upstreamCharacterStart
  /-- RESET_RELEASE (R38). -/
  | resetRelease
  deriving DecidableEq, Repr

end Sys2Proof
end

