-- ==== Sys2Proof/WellFormed.lean ====
section
/-! DEFINITION. Which operands a command's row of the table admits. -/

namespace Sys2Proof

/-- The largest payload of an upstream frame: LEN is at most 243 and counts ADDR, CMD and TAG (R165). -/
def maxPayload : Nat := 240

/-- An address a node-addressed row carries: 1 to 30 (R169, step 3). -/
def isNodeAddr (addr : Byte) : Bool := 1 ≤ addr.toNat && addr.toNat ≤ 30

/-- The payload of an upstream frame fits in a frame. -/
def fitsFrame (payload : List Byte) : Bool := payload.length ≤ maxPayload

/-- A command is well formed when its operands are ones its row of the table can carry: a payload that
fits in a frame, a node address where the row is node addressed (a frame with another address is the row
FRAME_WITH_UNKNOWN_COMMAND), and a byte the row's own words allow. -/
def Instr.wellFormed : Instr → Bool
  | .huntByte byte fault => byte != 0x5A || fault
  | .frameWithUnknownCommand _ _ _ payload => fitsFrame payload
  | .readInput addr _ payload | .writeOutput addr _ payload | .exchange addr _ payload
  | .pass addr _ payload | .probe addr _ payload | .queryNode addr _ payload =>
      isNodeAddr addr && fitsFrame payload
  | .queryStatus _ payload | .readCounters _ payload | .readTable _ payload | .loadLine _ payload
  | .loadNodes _ payload | .loadMain _ payload | .loadInterleave _ payload | .setLengths _ payload
  | .commit _ payload | .discard _ payload | .start _ payload | .stop _ payload
  | .suspendCycle _ payload | .resumeCycle _ payload | .clearSafe _ payload | .restartWarm _ payload
  | .cancel _ payload | .noticeAck _ payload | .bulkOpen _ payload | .bulkData _ payload
  | .bulkStart _ payload | .bulkSuspend _ payload | .bulkResume _ payload | .bulkAbort _ payload
  | .bulkStatus _ payload | .bulkClear _ payload => fitsFrame payload
  | .powerOnReset _ _ | .upstreamCheckError _ _ | .upstreamInterByteExpiry | .upstreamFrameSent
  | .warmRestartTakesEffect | .noticeResendTimerExpiry | .silenceTimerExpiry | .minPeriodWaitExpiry
  | .deadlineExpiry _ | .backoffExpiry | .arbitration | .gapTimerExpiry | .lastCharacterSent
  | .strayByte _ | .replySyncArrival | .replyFrameReceived _ | .replyTimerExpiry
  | .downstreamInterByteExpiry | .commitApplication | .timebaseTick | .replyByteCollected _
  | .downstreamCharacterStart | .upstreamByteCollected _ | .upstreamCharacterStart
  | .resetRelease => true

end Sys2Proof
end

