-- ==== Sys2Proof/Decode.lean ====
section
/-! DEFINITION. The decoder of table words: spec/opcode_table.json gives no row any bits. -/

namespace Sys2Proof

/-- The command a word spells by the bits of spec/opcode_table.json.  No row of that table carries bits (the
reader's count of rows with fixed bits or fields is 0), so no word spells a command. -/
def decodeTableWord (_nbits _w : Nat) : Option Instr := none

end Sys2Proof
end

