-- ==== Sys2Proof/Config.lean ====
section
/-! DEFINITION. What the manual leaves open: constants with no body, so that no proof can see their values. -/

namespace Sys2Proof

/-- FREE (log entry 4).  Where the application of a pending commit and an arbitration are both due, whether the
application is first.  R121: "Either may be taken first". -/
opaque Config.applicationFirst : Nat → Bool

/-- FREE (log entry 11).  On the outcome that carries a DATA reply, whether the image store takes the
outcome before the node table.  R69: "Either order may occur". -/
opaque Config.imageStoreFirst : Nat → Bool

/-- FREE (log entry 12).  When one event both queues a reply and makes a notice ready at an IDLE
transmitter, whether the notice is ready first.  R171: "the two events fall in either order". -/
opaque Config.noticeReadyFirst : Nat → Bool

/-- FREE (log entry 13).  At an application that ends a transfer, whether BULK_END is offered before
COMMIT_APPLIED.  R163: they "are queued in the order they are taken". -/
opaque Config.bulkEndFirst : Nat → Bool

/-- FREE (log entry 14).  When a frame fails step 5 of R169 with a deadline of 0 and with a byte count at once,
whether the refusal is BAD_VALUE. -/
opaque Config.badValueFirst : Nat → Bool

/-- FREE (log entry 15).  The first and count bytes of a READ_TABLE LINE reply, for the request's own two
bytes, which are not read (R158). -/
opaque Config.lineReadBytes : Byte → Byte → Byte × Byte

end Sys2Proof
end

