-- ==== Sys2Proof/Machine/State.lean ====
section
/-! DEFINITION. The state of the IW8216, block by block, and its values right after power-on reset. -/

namespace Sys2Proof.Machine

/-! ### Names the sections share -/

/-- Health of a node (R41, R42). -/
inductive Health where
  | disabled | probing | online | suspect | offline
  deriving DecidableEq, Repr

/-- Quality of an input image (R66). -/
inductive Quality where
  | none | lost | stale | good
  deriving DecidableEq, Repr

/-- The notify field of a node record (R40). -/
inductive Notify where
  | none | anyChange | statusOnly
  deriving DecidableEq, Repr

/-- Run states (Section 7.4). -/
inductive RunState where
  | stopped | running | suspended
  deriving DecidableEq, Repr

/-- Result codes (Table 11-6). -/
inductive Result where
  | ok | accepted | held | busy | tagInUse | badAddress | badCommand | badLength | badValue
  | nodeDisabled | nodeOffline | nodeRemoved | nodeChanged | nodeBusy | bulkBusy | bulkActive
  | safeState | expired | cancelled | notCancellable | unknownTag | staleUnavailable | refreshFailed
  | lineFailure | nodeError | commitPending | invalidTables | wrongState | outOfOrder | incomplete
  | staleAck | noSchedule
  deriving DecidableEq, Repr

/-- The failure outcomes of an attempt (R26, R35). -/
inductive FailKind where
  | timeout | badCheck | malformed | wrongSource
  deriving DecidableEq, Repr

/-! ### Line controller (Section 2) -/

/-- The request a transaction order names, with what the order carries for it (R23, R25). -/
inductive Request where
  | exchange
  | status
  | pass (bytes : List Byte)
  | segment (index : Nat) (last cancel : Bool) (data : List Byte)
  | safe
  deriving DecidableEq, Repr

/-- The two FIFOs of the request queue (R80, R82). -/
inductive QueueClass where
  | urgent | normal
  deriving DecidableEq, Repr

/-- The owner of an attempt (R25).  DEMAND names its entry by its class: at most one entry of a class is in
flight, and it is the class's head (R82). -/
inductive Owner where
  | schedule
  | demand (cls : QueueClass)
  | bulk
  | none
  deriving DecidableEq, Repr

/-- A transaction order (R25). -/
structure Order where
  request : Request
  addr : Nat
  owner : Owner
  attempt : Nat
  deriving DecidableEq, Repr

/-- The line controller's state with what it holds in it (R25, R27, Table 2-1).  A timer is the tick time
at which it expires; `none` is a timer stopped by the start of a character. -/
inductive LinePhase where
  | idle
  | gapWait (order : Order) (gap : Option Nat)
  | sending (order : Order) (frame : List Byte) (outputSent : Bool)
  | awaiting (order : Order) (outputSent : Bool) (replyTimer : Nat)
  | receiving (order : Order) (outputSent : Bool) (got : List Byte) (interByte : Option Nat)
  | draining (order : Order) (outputSent : Bool) (interByte : Option Nat)
  deriving DecidableEq, Repr

/-- The line direction output (R30, R31). -/
inductive Direction where
  | transmit | receive
  deriving DecidableEq, Repr

/-- The line counters (R37). -/
structure LineCounters where
  framesSent : Half
  broadcastsSent : Half
  replied : Half
  nodeErrors : Half
  timeouts : Half
  badChecks : Half
  malformed : Half
  wrongSources : Half
  strayBytes : Half
  withdrawn : Half
  deriving DecidableEq, Repr

/-- All line counters at 0 (R38). -/
def LineCounters.zero : LineCounters := ⟨0, 0, 0, 0, 0, 0, 0, 0, 0, 0⟩

/-- The line controller. -/
structure LineCtl where
  phase : LinePhase
  direction : Direction
  /-- the tick time at which the last character on the line ended (R27) -/
  quietSince : Nat
  /-- a received character has started and not yet arrived (R27, R28) -/
  charIn : Bool
  /-- the character in progress started during SENDING, so its byte is stray when it arrives (R30) -/
  charForeign : Bool
  /-- the character a warm restart cut a frame after is still being completed (R39) -/
  cutChar : Bool
  counters : LineCounters
  deriving DecidableEq, Repr

/-- The line controller after power-on reset (R38). -/
def LineCtl.reset : LineCtl := ⟨.idle, .receive, 0, false, false, false, LineCounters.zero⟩

/-- The content of a valid reply (R24, R26). -/
inductive ReplyContent where
  | data (status : Byte) (block : List Byte)
  | statusReply (status nodeType : Byte)
  | passReply (status : Byte) (bytes : List Byte)
  | segAck
  | segNakBusy
  | segNakReject
  deriving DecidableEq, Repr

/-- The verdict on one attempt (R26). -/
inductive LineOutcome where
  | replied (content : ReplyContent)
  | nodeError (code : Byte)
  | failure (kind : FailKind)
  | sent
  deriving DecidableEq, Repr

/-! ### Scheduler (Sections 1 and 7) -/

/-- Kinds of schedule step (R4). -/
inductive StepKind where
  | main | interleave | probe
  deriving DecidableEq, Repr

/-- A step record (R4): its kind, its node, and the main index, interleave pointer or sweep address it came
from. -/
structure SchedStep where
  kind : StepKind
  node : Nat
  pos : Nat
  deriving DecidableEq, Repr

/-- The attached step, with the attempts ordered for it and whether its retry is pending (R4, R11, R127). -/
structure Attached where
  step : SchedStep
  attempts : Nat
  retryPending : Bool
  deriving DecidableEq, Repr

/-- Phase of the schedule (R4). -/
inductive SchedPhase where
  | sweep | main
  deriving DecidableEq, Repr

/-- The scheduler: the poll schedule's state (R4) and the arbiter's, run state and safe condition (R124,
R125, R135, R137, R139).  Times are tick times. -/
structure Sched where
  phase : SchedPhase
  sweepAddr : Nat
  mainIndex : Nat
  ilPointer : Nat
  spacing : Nat
  ready : Option SchedStep
  attached : Option Attached
  detached : Option SchedStep
  cycleNumber : Half
  cycleStart : Option Nat
  suspendedMark : Bool
  boundaryMark : Bool
  minWait : Option Nat
  overrun : Half
  runState : RunState
  safe : Bool
  safeBroadcast : Bool
  credit : Nat
  pace : Nat
  deriving DecidableEq, Repr

/-- The scheduler after either reset (R20, R139), the boundary mark being held set while main_len is 0. -/
def Sched.reset (mainEmpty : Bool) : Sched where
  phase := .sweep
  sweepAddr := 1
  mainIndex := 0
  ilPointer := 0
  spacing := 0
  ready := none
  attached := none
  detached := none
  cycleNumber := 0
  cycleStart := none
  suspendedMark := false
  boundaryMark := mainEmpty
  minWait := none
  overrun := 0
  runState := .stopped
  safe := false
  safeBroadcast := false
  credit := 0
  pace := 0

/-! ### Node table and image store (Sections 3 and 4) -/

/-- The runtime part of a node's record (R41). -/
structure NodeRt where
  health : Health
  failCount : Nat
  countdown : Byte
  attention : Bool
  attempts : Half
  failures : Half
  deriving DecidableEq, Repr

/-- A node record after power-on reset (R59). -/
def NodeRt.reset : NodeRt := ⟨.disabled, 0, 0, false, 0, 0⟩

/-- A node's input-image and output-image records (R61, R62). -/
structure Image where
  valid : Bool
  data : List Byte
  status : Byte
  sequence : Byte
  age : Half
  outSet : Bool
  outData : List Byte
  deriving DecidableEq, Repr

/-- Both image records of a node after a reset (R79), for its input_len and output_len. -/
def Image.reset (inLen outLen : Nat) : Image :=
  ⟨false, List.replicate inLen 0, 0, 0, 65535, false, List.replicate outLen 0⟩

/-! ### Request queue (Section 5) -/

/-- Kinds of entry (R80); a PASS entry holds its bytes (R81). -/
inductive EntryKind where
  | refresh
  | exchange
  | pass (bytes : List Byte)
  | probe
  deriving DecidableEq, Repr

/-- Where an entry stands (R81): queued (its ordered field clear), or in flight in one of two phases. -/
inductive EntryPhase where
  | queued | onLine | retryPending
  deriving DecidableEq, Repr

/-- A tag held in an entry's tag list, with its expiry time or none (R81, R92). -/
structure TagSlot where
  tag : Byte
  expiry : Option Nat
  deriving DecidableEq, Repr

/-- An entry of the request queue (R81). -/
structure Entry where
  kind : EntryKind
  node : Nat
  tags : List TagSlot
  attempts : Nat
  phase : EntryPhase
  deriving DecidableEq, Repr

/-- The two FIFOs, oldest first (R82). -/
structure ReqQueue where
  urgent : List Entry
  normal : List Entry
  deriving DecidableEq, Repr

/-! ### Bulk unit (Section 6) -/

/-- Failure reasons of a transfer (R100). -/
inductive FailReason where
  | nodeBusy | rejected | nodeError | lineFailure | nodeOffline | nodeRemoved
  deriving DecidableEq, Repr

/-- How a transfer ended (R100). -/
inductive BulkOutcome where
  | done
  | failed (reason : FailReason)
  | aborted
  deriving DecidableEq, Repr

/-- What suspended a transfer (R100). -/
inductive SuspendCause where
  | user | safe
  deriving DecidableEq, Repr

/-- State of the transfer record (R100, Table 6-1), with the field that is present in that state only. -/
inductive BulkState where
  | empty
  | filling
  | running
  | waiting (backoff : Nat)
  | suspended (cause : SuspendCause)
  | ended (outcome : BulkOutcome)
  deriving DecidableEq, Repr

/-- Segment phase (R100). -/
inductive SegPhase where
  | none | onLine | retryPending | detached
  deriving DecidableEq, Repr

/-- The transfer buffer (R100): (address, byte) cells with rising addresses below 512 and no cell that
holds 0, which is what an unlisted address reads as. -/
abbrev Memory := List Host.Cell

/-- The bulk unit: the transfer record, the buffer and the cancel record (R100).  `cancel` holds the cancel
node and index while the cancel-pending flag is set. -/
structure Bulk where
  state : BulkState
  node : Option Nat
  declared : Option Nat
  filled : Nat
  segCount : Nat
  nextIndex : Nat
  acked : Nat
  attempts : Nat
  busy : Nat
  segPhase : SegPhase
  buffer : Memory
  cancel : Option (Nat × Nat)
  cancelOnLine : Bool
  deriving DecidableEq, Repr

/-- The bulk unit after either reset (R120). -/
def Bulk.reset : Bulk := ⟨.empty, none, none, 0, 0, 0, 0, 0, 0, .none, [], none, false⟩

/-! ### Notice queue (Section 8) -/

/-- Reason of a RESTART notice (R140). -/
inductive RestartReason where
  | power | warm
  deriving DecidableEq, Repr

/-- A waiting notice: its kind, its node, the fields fixed at the offer and the counts the queue keeps while
it waits (R140, R141, R143). -/
inductive Notice where
  | restart (reason : RestartReason)
  | change (node : Nat) (missed : Byte)
  | health (node : Nat) (transitions : Byte)
  | attention (node : Nat)
  | bulkEnd (node : Nat) (outcome : BulkOutcome) (acked : Nat)
  | commitApplied (generation : Byte)
  | cycleOverrun
  | safeEntered
  | overflow
  deriving DecidableEq, Repr

/-- The content of a notice as fixed at its first send (R140, R145). -/
inductive SentNotice where
  | restart (reason : RestartReason)
  | change (node : Nat) (sequence missed : Byte)
  | health (node : Nat) (health : Health) (transitions : Byte)
  | attention (node : Nat)
  | bulkEnd (node : Nat) (outcome : BulkOutcome) (acked : Nat)
  | commitApplied (generation : Byte)
  | cycleOverrun (count : Half)
  | safeEntered
  | overflow (lost : Byte)
  deriving DecidableEq, Repr

/-- The notice in flight: its fixed content, its sequence, and the resend timer; `none` is a timer that has
expired, the notice being ready for a resend (R141, R147). -/
structure InFlight where
  content : SentNotice
  sequence : Byte
  resend : Option Nat
  deriving DecidableEq, Repr

/-- The notice queue (R141): the notice in flight, if any, is the oldest; the others wait, oldest first. -/
structure NoticeQueue where
  inFlight : Option InFlight
  waiting : List Notice
  sequence : Byte
  lost : Byte
  overflowPending : Bool
  deriving DecidableEq, Repr

/-! ### Table store (Section 9) -/

/-- The line parameters (R152). -/
structure LineParams where
  downGap : Byte
  interleaveSpacing : Byte
  demandShare : Byte
  bulkPace : Byte
  bulkBackoff : Half
  cycleMinPeriod : Half
  silenceLimit : Half
  noticeResend : Half
  deriving DecidableEq, Repr

/-- The reset values of R152. -/
def LineParams.reset : LineParams := ⟨5, 4, 2, 4, 1000, 0, 0, 500⟩

/-- A node's configuration record (R40). -/
structure NodeConfig where
  enabled : Bool
  inputLen : Byte
  outputLen : Byte
  replyTimeout : Half
  retryLimit : Byte
  offlineThreshold : Byte
  probeInterval : Byte
  staleLimit : Half
  notify : Notify
  deriving DecidableEq, Repr

/-- The cleared values of R153. -/
def NodeConfig.cleared : NodeConfig := ⟨false, 0, 0, 50, 1, 3, 8, 5000, .none⟩

/-- A main-list entry (R154). -/
structure MainEntry where
  node : Byte
  divisor : Byte
  phase : Byte
  deriving DecidableEq, Repr

/-- The cleared main entry of R154. -/
def MainEntry.cleared : MainEntry := ⟨0, 1, 0⟩

/-- One copy of the three tables (R151). -/
structure TableSet where
  line : LineParams
  nodes : Vector NodeConfig 30
  mainLen : Nat
  ilLen : Nat
  main : Vector MainEntry 64
  interleave : Vector Byte 4
  deriving DecidableEq, Repr

/-- A copy of the tables after power-on reset (R164). -/
def TableSet.reset : TableSet :=
  ⟨LineParams.reset, Vector.replicate 30 NodeConfig.cleared, 0, 0,
   Vector.replicate 64 MainEntry.cleared, Vector.replicate 4 0⟩

/-- The table store (R151): `commitPending` is the commit state PENDING. -/
structure TableStore where
  shadow : TableSet
  active : TableSet
  commitPending : Bool
  generation : Byte
  deriving DecidableEq, Repr

/-! ### Link port (Section 10) -/

/-- The receiver's state with the bytes collected from LEN on and its inter-byte timer (R166); `none` is a
timer stopped by the start of a character. -/
inductive RxPhase where
  | hunt
  | header (got : List Byte) (timer : Option Nat)
  | body (got : List Byte) (timer : Option Nat)
  deriving DecidableEq, Repr

/-- An upstream frame without its SYNC, LEN and check bytes, which follow from the rest (R165). -/
structure UpFrame where
  addr : Byte
  cmd : Byte
  tag : Byte
  payload : List Byte
  deriving DecidableEq, Repr

/-- The transmitter (R171).  The reply frame being sent is the oldest of the reply queue, whose slot it
keeps until its end; the notice frame being sent is held here. -/
inductive Tx where
  | idle
  | sendingReply
  | sendingNotice (frame : UpFrame)
  deriving DecidableEq, Repr

/-- The link counters (R173). -/
structure LinkCounters where
  validFrames : Half
  checkErrors : Half
  discards : Half
  huntBytes : Half
  repliesSent : Half
  noticesSent : Half
  deriving DecidableEq, Repr

/-- All link counters at 0 (R175). -/
def LinkCounters.zero : LinkCounters := ⟨0, 0, 0, 0, 0, 0⟩

/-- The link port.  `restartPending` holds, while a restart is pending, how many reply frames are still to be
sent, the RESTART_WARM reply being the last of them (R174). -/
structure LinkPort where
  rx : RxPhase
  replies : List UpFrame
  tx : Tx
  replyRun : Nat
  restartPending : Option Nat
  armed : Bool
  silenceTimer : Option Nat
  counters : LinkCounters
  deriving DecidableEq, Repr

/-- The link port after either reset (R175, R139). -/
def LinkPort.reset : LinkPort := ⟨.hunt, [], .idle, 0, none, false, none, LinkCounters.zero⟩

/-! ### The machine -/

/-- The whole part.  `now` is the tick time of the timebase, `choices` counts the free choices taken (the
model's own field), `pending` is the queue of commands that wait (the model's own field). -/
structure State where
  now : Nat
  resetAsserted : Bool
  upStrap : BitVec 2
  downStrap : BitVec 2
  line : LineCtl
  sched : Sched
  nodes : Vector NodeRt 30
  images : Vector Image 30
  queue : ReqQueue
  bulk : Bulk
  notices : NoticeQueue
  tables : TableStore
  link : LinkPort
  choices : Nat
  pending : List Instr
  deriving DecidableEq, Repr

/-- The machine right after power-on reset, RESET still asserted (R20, R38, R59, R79, R98, R120, R139,
R149, R164, R175).  `now`, the strap values and `choices` are the model's (log entries 8, 9, 10). -/
def State.reset : State where
  now := 0
  resetAsserted := true
  upStrap := 0
  downStrap := 0
  line := LineCtl.reset
  sched := Sched.reset true
  nodes := Vector.replicate 30 NodeRt.reset
  images := Vector.replicate 30 (Image.reset 0 0)
  queue := ⟨[], []⟩
  bulk := Bulk.reset
  notices := ⟨none, [.restart .power], 0, 0, false⟩
  tables := ⟨TableSet.reset, TableSet.reset, false, 0⟩
  link := LinkPort.reset
  choices := 0
  pending := []

/-! ### How a step can stop -/

/-- Why the machine stops with a fault. -/
inductive Fault where
  /-- A byte would be written to an address of the transfer buffer that does not exist (R100: 512 bytes).
  Raised by BULK_DATA, only in a state whose declared length is above 512, which no run reaches.  Safe. -/
  | bufferRange
  deriving DecidableEq, Repr

/-- Why a command is refused. -/
inductive Refusal where
  /-- The command's row has no meaning in the model.  Raised by a refused arm of `exec`.  Safe. -/
  | notModelled (mnemonic : String)
  /-- The event cannot occur in this state: the spec gives it no occurrence there (a timer that is not
  running or not due has no expiry, R27; a byte or a frame is another row's).  Raised by the meaning of the
  command named, never where the spec gives the event an effect.  Safe (log entry 2). -/
  | cannotOccur (mnemonic : String)
  deriving DecidableEq, Repr

end Sys2Proof.Machine
end

