-- ==== Sys2Proof/Machine/Ops.lean ====
section
/-! DEFINITION. Named operations over the part's memory, records and counters. -/

namespace Sys2Proof.Machine

/-- The answer of a command. -/
abbrev Out := Host.Outcome State Fault Refusal

/-! ### Counters and two-byte fields -/

/-- One more, staying at the largest value of the width (00_scope.md, Table 4: a counter that saturates). -/
def satInc {w : Nat} (x : BitVec w) : BitVec w := if x = BitVec.allOnes w then x else x + 1

/-- A two-byte field, most significant byte first (R176). -/
def halfBytes (h : Half) : List Byte := [h.extractLsb' 8 8, h.extractLsb' 0 8]

/-- The number two bytes stand for, most significant byte first (R176). -/
def half (hi lo : Byte) : Half := hi ++ lo

/-- A number in one byte. -/
def natByte (n : Nat) : Byte := BitVec.ofNat 8 n

/-- A number in two bytes. -/
def natHalf (n : Nat) : List Byte := halfBytes (BitVec.ofNat 16 n)

/-- A flag byte: 0 clear, 1 set. -/
def flagByte (b : Bool) : Byte := if b then 1 else 0

/-! ### The transfer buffer (R100) -/

/-- The number of bytes of the transfer buffer. -/
def bufferSize : Nat := 512

/-- The byte at an address; an unlisted address reads 0 (R102, R118, R120). -/
def Memory.read : Memory → Nat → Byte
  | [], _ => 0
  | (b, v) :: m, a => if a = b then v else Memory.read m a

/-- The buffer with one byte written, in the canonical form. -/
def Memory.write : Memory → Nat → Byte → Memory
  | [], a, v => if v = 0 then [] else [(a, v)]
  | (b, w) :: m, a, v =>
    if a < b then (if v = 0 then (b, w) :: m else (a, v) :: (b, w) :: m)
    else if a = b then (if v = 0 then m else (a, v) :: m)
    else (b, w) :: Memory.write m a v

/-- The buffer with a run of bytes written from an address upward (R103). -/
def Memory.writeRun : Memory → Nat → List Byte → Memory
  | m, _, [] => m
  | m, a, v :: vs => Memory.writeRun (Memory.write m a v) (a + 1) vs

/-- The bytes of a run of addresses (R105). -/
def Memory.readRun (m : Memory) (a n : Nat) : List Byte := (List.range n).map fun i => m.read (a + i)

/-- The canonical form: addresses rising and below 512, no cell holding what an unlisted address reads as. -/
def Memory.wf (m : Memory) : Bool :=
  decide (m.Pairwise fun c d => c.1 < d.1) && m.all fun c => c.2 != 0 && decide (c.1 < bufferSize)

/-! ### Records numbered 1 to 30 -/

/-- The record of node n in a bank of 30, or `d` where n is no node address. -/
def bankGet {α : Type} (v : Vector α 30) (d : α) : Nat → α
  | 0 => d
  | k + 1 => v[k]?.getD d

/-- The bank with node n's record replaced. -/
def bankSet {α : Type} (v : Vector α 30) : Nat → α → Vector α 30
  | 0, _ => v
  | k + 1, x => v.setIfInBounds k x

/-- The bank whose node n's record is `f n`, for n from 1 to 30. -/
def tabulate {α : Type} (f : Nat → α) : Vector α 30 :=
  ⟨⟨(List.range 30).map fun i => f (i + 1)⟩, by simp⟩

/-- The node addresses, ascending. -/
def nodeAddrs : List Nat := (List.range 30).map (· + 1)

/-! ### Updates of one block of the state -/

/-- The state with another line controller. -/
def State.withLine (s : State) (x : LineCtl) : State := { s with line := x }
/-- The state with another scheduler. -/
def State.withSched (s : State) (x : Sched) : State := { s with sched := x }
/-- The state with another node table. -/
def State.withNodes (s : State) (x : Vector NodeRt 30) : State := { s with nodes := x }
/-- The state with another image store. -/
def State.withImages (s : State) (x : Vector Image 30) : State := { s with images := x }
/-- The state with another request queue. -/
def State.withQueue (s : State) (x : ReqQueue) : State := { s with queue := x }
/-- The state with another bulk unit. -/
def State.withBulk (s : State) (x : Bulk) : State := { s with bulk := x }
/-- The state with another notice queue. -/
def State.withNotices (s : State) (x : NoticeQueue) : State := { s with notices := x }
/-- The state with another table store. -/
def State.withTables (s : State) (x : TableStore) : State := { s with tables := x }
/-- The state with another link port. -/
def State.withLink (s : State) (x : LinkPort) : State := { s with link := x }
/-- The state with one more free choice counted (log entry 10). -/
def State.countChoice (s : State) : State := { s with choices := s.choices + 1 }

/-! ### Reading and writing the records of a node -/

/-- Node n's configuration in the active node table (R40). -/
def State.cfg (s : State) (n : Nat) : NodeConfig := bankGet s.tables.active.nodes NodeConfig.cleared n

/-- The active line parameters (R152). -/
def State.params (s : State) : LineParams := s.tables.active.line

/-- Node n's runtime record (R41). -/
def State.node (s : State) (n : Nat) : NodeRt := bankGet s.nodes NodeRt.reset n

/-- Node n's health as it stands (R56). -/
def State.health (s : State) (n : Nat) : Health := (s.node n).health

/-- The state with node n's runtime record replaced. -/
def State.setNode (s : State) (n : Nat) (r : NodeRt) : State := s.withNodes (bankSet s.nodes n r)

/-- Node n's image records (R61, R62). -/
def State.image (s : State) (n : Nat) : Image := bankGet s.images (Image.reset 0 0) n

/-- The state with node n's image records replaced. -/
def State.setImage (s : State) (n : Nat) (i : Image) : State := s.withImages (bankSet s.images n i)

/-- The FIFO of a class (R82). -/
def ReqQueue.fifo (q : ReqQueue) : QueueClass → List Entry
  | .urgent => q.urgent
  | .normal => q.normal

/-- The request queue with the FIFO of a class replaced. -/
def ReqQueue.setFifo (q : ReqQueue) : QueueClass → List Entry → ReqQueue
  | .urgent, l => { q with urgent := l }
  | .normal, l => { q with normal := l }

/-- All entries in queue order: the URGENT class first, each class oldest first (R91). -/
def ReqQueue.entries (q : ReqQueue) : List Entry := q.urgent ++ q.normal

/-- The refusal of an event that the state rules out (log entry 2). -/
def cannot (mnemonic : String) : Out := .refused (.cannotOccur mnemonic)

end Sys2Proof.Machine
end

