-- ==== Sys2Proof/Machine/Frames.lean ====
section
/-! DEFINITION. Codes, frames and record layouts of Section 11, and the check pair of R22. -/

namespace Sys2Proof.Machine

/-! ### Straps (R1, Table 8) -/

/-- The upstream bit rate a strap value selects. -/
def upBitRate (strap : BitVec 2) : Nat :=
  if strap = 0 then 19200 else if strap = 1 then 38400 else if strap = 2 then 57600 else 115200

/-- The downstream bit rate a strap value selects. -/
def downBitRate (strap : BitVec 2) : Nat :=
  if strap = 0 then 9600 else if strap = 1 then 19200 else if strap = 2 then 38400 else 62500

/-- The bit rate of the upstream interface, from the straps sampled at power-up. -/
def State.upRate (s : State) : Nat := upBitRate s.upStrap

/-- The bit rate of the downstream interface, from the straps sampled at power-up. -/
def State.downRate (s : State) : Nat := downBitRate s.downStrap

/-- A character lasts ten bit times: a start bit, eight data bits and a stop bit. -/
def charBitTimes : Nat := 10

/-- The bits of a character in the order they are sent: start bit low, data least significant first, stop
bit high. -/
def charBits (b : Byte) : List Bool := false :: (List.range 8).map (fun i => b.getLsbD i) ++ [true]

/-! ### Enumeration codes (11.6) -/

/-- Code of a health. -/
def Health.code : Health → Byte
  | .disabled => 1 | .probing => 2 | .online => 3 | .suspect => 4 | .offline => 5

/-- Code of a quality. -/
def Quality.code : Quality → Byte
  | .none => 1 | .lost => 2 | .stale => 3 | .good => 4

/-- Code of a notify field. -/
def Notify.code : Notify → Byte
  | .none => 0 | .anyChange => 1 | .statusOnly => 2

/-- The notify field of a code, if the code is one. -/
def Notify.ofCode (b : Byte) : Option Notify :=
  if b = 0 then some .none else if b = 1 then some .anyChange else if b = 2 then some .statusOnly else none

/-- Code of a run state. -/
def RunState.code : RunState → Byte
  | .stopped => 1 | .running => 2 | .suspended => 3

/-- Code of a bulk state. -/
def BulkState.code : BulkState → Byte
  | .empty => 1 | .filling => 2 | .running => 3 | .waiting _ => 4 | .suspended _ => 5 | .ended _ => 6

/-- Code of a segment phase. -/
def SegPhase.code : SegPhase → Byte
  | .none => 1 | .onLine => 2 | .retryPending => 3 | .detached => 4

/-- Code of a suspend cause. -/
def SuspendCause.code : SuspendCause → Byte
  | .user => 1 | .safe => 2

/-- The suspend cause of a transfer, 0 where it is absent (R176). -/
def BulkState.causeCode : BulkState → Byte
  | .suspended c => c.code
  | _ => 0

/-- Code of a failure reason. -/
def FailReason.code : FailReason → Byte
  | .nodeBusy => 1 | .rejected => 2 | .nodeError => 3 | .lineFailure => 4 | .nodeOffline => 5
  | .nodeRemoved => 6

/-- Code of a bulk outcome. -/
def BulkOutcome.code : BulkOutcome → Byte
  | .done => 1 | .failed _ => 2 | .aborted => 3

/-- The failure reason of a bulk outcome, 0 where it is absent (R176). -/
def BulkOutcome.reasonCode : BulkOutcome → Byte
  | .failed r => r.code
  | _ => 0

/-- Outcome and failure reason of a transfer, 0 where absent (R176). -/
def BulkState.outcomeBytes : BulkState → List Byte
  | .ended o => [o.code, o.reasonCode]
  | _ => [0, 0]

/-- Code of a failure outcome. -/
def FailKind.code : FailKind → Byte
  | .timeout => 1 | .badCheck => 2 | .malformed => 3 | .wrongSource => 4

/-- Code of a RESTART reason. -/
def RestartReason.code : RestartReason → Byte
  | .power => 1 | .warm => 2

/-- Result codes (Table 11-6). -/
def Result.code : Result → Byte
  | .ok => 0x00 | .accepted => 0x01 | .held => 0x02
  | .busy => 0x10 | .tagInUse => 0x11 | .badAddress => 0x12 | .badCommand => 0x13
  | .badLength => 0x14 | .badValue => 0x15
  | .nodeDisabled => 0x20 | .nodeOffline => 0x21 | .nodeRemoved => 0x22 | .nodeChanged => 0x23
  | .nodeBusy => 0x24 | .bulkBusy => 0x25 | .bulkActive => 0x26 | .safeState => 0x27
  | .expired => 0x30 | .cancelled => 0x31 | .notCancellable => 0x32
  | .unknownTag => 0x33 | .staleUnavailable => 0x34 | .refreshFailed => 0x35
  | .lineFailure => 0x36 | .nodeError => 0x37
  | .commitPending => 0x40 | .invalidTables => 0x41 | .wrongState => 0x42 | .outOfOrder => 0x43
  | .incomplete => 0x44 | .staleAck => 0x45 | .noSchedule => 0x46

/-! ### The check pair (R22) -/

/-- One byte taken into the two running sums. -/
def checkStep (p : Nat × Nat) (b : Byte) : Nat × Nat :=
  let a := (p.1 + b.toNat) % 255
  (a, (p.2 + a) % 255)

/-- The check bytes A and B over a run of bytes. -/
def checkPair (bytes : List Byte) : Byte × Byte :=
  let p := bytes.foldl checkStep (0, 0)
  (natByte p.1, natByte p.2)

/-- A run of bytes with its check pair after it. -/
def withCheck (bytes : List Byte) : List Byte := bytes ++ [(checkPair bytes).1, (checkPair bytes).2]

/-! ### Upstream frames (R165) -/

/-- SYNC of an upstream frame. -/
def upSync : Byte := 0x5A

/-- The bytes of an upstream frame the check pair covers: LEN through the last payload byte. -/
def UpFrame.body (f : UpFrame) : List Byte :=
  natByte (3 + f.payload.length) :: f.addr :: f.cmd :: f.tag :: f.payload

/-- The whole frame as it goes over the link. -/
def UpFrame.bytes (f : UpFrame) : List Byte := upSync :: withCheck f.body

/-- The reply frame to a request: bit 7 of ADDR and of CMD set, the tag echoed, the result code first
(R165, R170, R176). -/
def replyFrame (addr cmd tag : Byte) (r : Result) (content : List Byte) : UpFrame :=
  ⟨addr ||| 0x80, cmd ||| 0x80, tag, r.code :: content⟩

/-! ### Downstream frames (R21, R23, R178) -/

/-- SYNC of a downstream frame. -/
def downSync : Byte := 0xC6

/-- Kind codes of the request frames (Table 11-7). -/
def Request.kindCode : Request → Byte
  | .exchange => 0x01 | .status => 0x02 | .pass _ => 0x03 | .segment _ _ _ _ => 0x04 | .safe => 0x0F

/-- The flags byte of an EXCHANGE: bit 0 is NO_OUTPUT. -/
def exchangeFlags (block : Option (List Byte)) : Byte := if block.isSome then 0x00 else 0x01

/-- The flags byte of a SEGMENT: bit 0 is LAST, bit 1 is CANCEL. -/
def segmentFlags (last cancel : Bool) : Byte :=
  (if last then 0x01 else 0x00) ||| (if cancel then 0x02 else 0x00)

/-- The payload of a request frame; an EXCHANGE's output block is chosen when sending begins (R23, R30). -/
def Request.payload (block : Option (List Byte)) : Request → List Byte
  | .exchange => exchangeFlags block :: block.getD []
  | .status => []
  | .pass bytes => bytes
  | .segment index last cancel data => natByte index :: segmentFlags last cancel :: data
  | .safe => []

/-- A whole downstream frame. -/
def downFrame (addr kind : Byte) (payload : List Byte) : List Byte :=
  downSync :: withCheck (addr :: kind :: natByte payload.length :: payload)

/-! ### Records (11.3, 11.4) -/

/-- The 12-byte line record (Table 11-5). -/
def LineParams.bytes (p : LineParams) : List Byte :=
  [p.downGap, p.interleaveSpacing, p.demandShare, p.bulkPace] ++ halfBytes p.bulkBackoff
    ++ halfBytes p.cycleMinPeriod ++ halfBytes p.silenceLimit ++ halfBytes p.noticeResend

/-- The 11-byte node record (Table 11-5). -/
def NodeConfig.bytes (c : NodeConfig) : List Byte :=
  [flagByte c.enabled, c.inputLen, c.outputLen] ++ halfBytes c.replyTimeout
    ++ [c.retryLimit, c.offlineThreshold, c.probeInterval] ++ halfBytes c.staleLimit ++ [c.notify.code]

/-- A main entry's 3 bytes (Table 11-1). -/
def MainEntry.bytes (e : MainEntry) : List Byte := [e.node, e.divisor, e.phase]

/-- The line counters in the order of Table 11-4. -/
def LineCounters.bytes (c : LineCounters) : List Byte :=
  [c.framesSent, c.broadcastsSent, c.replied, c.nodeErrors, c.timeouts, c.badChecks, c.malformed,
    c.wrongSources, c.strayBytes, c.withdrawn].flatMap halfBytes

/-- The link counters in the order of Table 11-4. -/
def LinkCounters.bytes (c : LinkCounters) : List Byte :=
  [c.validFrames, c.checkErrors, c.discards, c.huntBytes, c.repliesSent, c.noticesSent].flatMap halfBytes

/-- The transfer record as BULK_STATUS returns it (Table 11-4); an absent field is sent as 0 (R176). -/
def Bulk.bytes (b : Bulk) : List Byte :=
  [b.state.code, natByte (b.node.getD 0)] ++ natHalf (b.declared.getD 0) ++ natHalf b.filled
    ++ [natByte b.segCount, natByte b.nextIndex, natByte b.acked, natByte b.attempts, natByte b.busy,
        b.segPhase.code, b.state.causeCode] ++ b.state.outcomeBytes ++ [flagByte b.cancel.isSome]

/-- The payload of a notice frame (11.5). -/
def SentNotice.payload : SentNotice → List Byte
  | .restart r => [0x01, 0, r.code]
  | .change n seq missed => [0x02, natByte n, seq, missed]
  | .health n h transitions => [0x03, natByte n, h.code, transitions]
  | .attention n => [0x04, natByte n]
  | .bulkEnd n o acked => [0x05, natByte n, o.code, o.reasonCode, natByte acked]
  | .commitApplied g => [0x06, 0, g]
  | .cycleOverrun c => [0x07, 0] ++ halfBytes c
  | .safeEntered => [0x08, 0]
  | .overflow lost => [0x09, 0, lost]

/-- The frame of the notice in flight: ADDR 0x80, CMD 0xE0, the sequence in TAG (R147). -/
def InFlight.frame (f : InFlight) : UpFrame := ⟨0x80, 0xE0, f.sequence, f.content.payload⟩

end Sys2Proof.Machine
end

