-- ==== Sys2Proof/Machine/Operands.lean ====
section
/-! DEFINITION. The operand forms: command codes, payload layouts, ranges and the records read from a payload. -/

namespace Sys2Proof.Machine

/-- The upstream commands (Table 11-1). -/
inductive Command where
  | readInput | writeOutput | exchange | pass | probe
  | queryStatus | queryNode | readCounters | readTable
  | loadLine | loadNodes | loadMain | loadInterleave | setLengths | commit | discard
  | start | stop | suspendCycle | resumeCycle | clearSafe | restartWarm | cancel | noticeAck
  | bulkOpen | bulkData | bulkStart | bulkSuspend | bulkResume | bulkAbort | bulkStatus | bulkClear
  deriving DecidableEq, Repr

/-- The code of a command (Table 11-1). -/
def Command.code : Command → Byte
  | .readInput => 0x10 | .writeOutput => 0x11 | .exchange => 0x12 | .pass => 0x13 | .probe => 0x14
  | .queryStatus => 0x20 | .queryNode => 0x21 | .readCounters => 0x22 | .readTable => 0x23
  | .loadLine => 0x30 | .loadNodes => 0x31 | .loadMain => 0x32 | .loadInterleave => 0x33
  | .setLengths => 0x34 | .commit => 0x35 | .discard => 0x36
  | .start => 0x40 | .stop => 0x41 | .suspendCycle => 0x42 | .resumeCycle => 0x43
  | .clearSafe => 0x44 | .restartWarm => 0x45 | .cancel => 0x46 | .noticeAck => 0x47
  | .bulkOpen => 0x50 | .bulkData => 0x51 | .bulkStart => 0x52 | .bulkSuspend => 0x53
  | .bulkResume => 0x54 | .bulkAbort => 0x55 | .bulkStatus => 0x56 | .bulkClear => 0x57

/-- All commands, in the order of Table 11-1. -/
def allCommands : List Command :=
  [.readInput, .writeOutput, .exchange, .pass, .probe, .queryStatus, .queryNode, .readCounters,
   .readTable, .loadLine, .loadNodes, .loadMain, .loadInterleave, .setLengths, .commit, .discard,
   .start, .stop, .suspendCycle, .resumeCycle, .clearSafe, .restartWarm, .cancel, .noticeAck,
   .bulkOpen, .bulkData, .bulkStart, .bulkSuspend, .bulkResume, .bulkAbort, .bulkStatus, .bulkClear]

/-- The command of a code, if the code is one (R169, step 2). -/
def Command.ofCode (cmd : Byte) : Option Command := allCommands.find? fun c => c.code = cmd

/-- The commands addressed to a node, 1 to 30; every other is addressed to 0 (R169, step 3). -/
def Command.nodeAddressed : Command → Bool
  | .readInput | .writeOutput | .exchange | .pass | .probe | .queryNode => true
  | _ => false

/-! ### The options byte (R176) -/

/-- The option bits a command allows. -/
def Command.allowedOptions : Command → Byte
  | .readInput => 0x07
  | .exchange => 0x0B
  | .pass => 0x03
  | .probe => 0x03
  | _ => 0x00

/-- The optional fields of a demand request, and the bytes that fill the rest of its payload. -/
structure DemandFields where
  options : Byte
  urgent : Bool
  maxAge : Option Half
  deadline : Option Half
  hasData : Bool
  rest : List Byte
  deriving DecidableEq, Repr

/-- A two-byte field taken from the front of a payload when it is announced. -/
def takeHalf (announced : Bool) (bytes : List Byte) : Option (Option Half × List Byte) :=
  if announced then
    match bytes with
    | hi :: lo :: more => some (some (half hi lo), more)
    | _ => none
  else some (none, bytes)

/-- The fields the options byte announces and the command allows, in the order max_age, deadline, rest; none
where the payload is too short for them (log entry 17). -/
def Command.demandFields (c : Command) : List Byte → Option DemandFields
  | [] => none
  | o :: bytes =>
    let called := o &&& c.allowedOptions
    match takeHalf (called.getLsbD 2) bytes with
    | none => none
    | some (age, bytes1) =>
      match takeHalf (called.getLsbD 1) bytes1 with
      | none => none
      | some (deadline, rest) => some ⟨o, called.getLsbD 0, age, deadline, called.getLsbD 3, rest⟩

/-! ### Payload size: step 4 of R169 -/

/-- The payload size is one the command's layout allows (Table 11-1, R176, R177). -/
def Command.sizeOk (c : Command) (payload : List Byte) : Bool :=
  let n := payload.length
  match c with
  | .readInput | .probe =>
    match c.demandFields payload with
    | some f => f.rest.isEmpty
    | none => false
  | .exchange =>
    match c.demandFields payload with
    | some f => f.hasData || f.rest.isEmpty
    | none => false
  | .pass => (c.demandFields payload).isSome
  | .writeOutput => 1 ≤ n && n ≤ 16
  | .readCounters => n ≤ 1
  | .readTable => n = 4
  | .loadLine => n = 12
  | .loadNodes =>
    match payload with
    | _ :: count :: recs => recs.length = 11 * count.toNat
    | _ => false
  | .loadMain =>
    match payload with
    | _ :: count :: recs => recs.length = 3 * count.toNat
    | _ => false
  | .loadInterleave =>
    match payload with
    | _ :: count :: recs => recs.length = count.toNat
    | _ => false
  | .setLengths => n = 2
  | .cancel | .noticeAck => n = 1
  | .bulkOpen => n = 3
  | .bulkData => 3 ≤ n && n ≤ 242
  | .queryStatus | .queryNode | .commit | .discard | .start | .stop | .suspendCycle | .resumeCycle
  | .clearSafe | .restartWarm | .bulkStart | .bulkSuspend | .bulkResume | .bulkAbort | .bulkStatus
  | .bulkClear => n = 0

/-! ### Field ranges: step 5 of R169 -/

/-- The options byte has a bit set that the command does not allow (R176). -/
def Command.optionBad (c : Command) (payload : List Byte) : Bool :=
  match c with
  | .readInput | .exchange | .pass | .probe => (payload.headD 0 &&& ~~~ c.allowedOptions) != 0
  | _ => false

/-- A field the link port checks, the options byte apart, has a value outside its range (R80, R169, R176). -/
def Command.valueBad (c : Command) (payload : List Byte) : Bool :=
  match c with
  | .readInput | .exchange | .pass | .probe =>
    (c.demandFields payload).any fun f => f.deadline == some 0
  | .readCounters =>
    match payload with
    | [] => false
    | b :: _ => b != 0x01
  | .bulkOpen =>
    match payload with
    | [node, hi, lo] => !isNodeAddr node || (half hi lo).toNat < 1 || 512 < (half hi lo).toNat
    | _ => false
  | .bulkData =>
    match payload with
    | hi :: lo :: _ => 511 < (half hi lo).toNat
    | _ => false
  | _ => false

/-- A byte count the link port checks lies outside its range (R80, R169, R176).  The byte counts of
WRITE_OUTPUT and BULK_DATA are their payload sizes (R103, R177) and are checked with them. -/
def Command.countBad (c : Command) (payload : List Byte) : Bool :=
  match c with
  | .exchange =>
    (c.demandFields payload).any fun f => f.hasData && (f.rest.length < 1 || 16 < f.rest.length)
  | .pass => (c.demandFields payload).any fun f => f.rest.length < 1 || 32 < f.rest.length
  | _ => false

/-- The refusal of step 5 of R169.  The options byte is checked first, the byte counts after it (R176).  Where a
deadline of 0 and a byte count out of range come together the manual does not say which refusal answers:
`first` chooses (log entry 14). -/
def Command.fieldRefusal (c : Command) (first : Bool) (payload : List Byte) : Option Result :=
  if c.optionBad payload then some .badValue
  else
    match c.valueBad payload, c.countBad payload with
    | true, true => some (if first then .badValue else .badLength)
    | true, false => some .badValue
    | false, true => some .badLength
    | false, false => none

/-! ### Dispatch (R169) -/

/-- Steps 1 to 3 of R169. -/
def addressRefusal (addr cmd : Byte) : Option Result :=
  if 30 < addr.toNat then some .badAddress
  else
    match Command.ofCode cmd with
    | none => some .badCommand
    | some c => if c.nodeAddressed = isNodeAddr addr then none else some .badAddress

/-- Steps 4 and 5 of R169. -/
def payloadRefusal (first : Bool) (cmd : Byte) (payload : List Byte) : Option Result :=
  match Command.ofCode cmd with
  | none => none
  | some c => if c.sizeOk payload then c.fieldRefusal first payload else some .badLength

/-- The refusal of the first check of R169 that fails. -/
def dispatchRefusal (first : Bool) (addr cmd : Byte) (payload : List Byte) : Option Result :=
  match addressRefusal addr cmd with
  | some r => some r
  | none => payloadRefusal first cmd payload

/-! ### Records read from a payload (11.4) -/

/-- A line record whose every field lies in its range (R152, R156). -/
def LineParams.ofBytes : List Byte → Option LineParams
  | [gap, spacing, share, pace, b1, b0, c1, c0, s1, s0, n1, n0] =>
    let p : LineParams := ⟨gap, spacing, share, pace, half b1 b0, half c1 c0, half s1 s0, half n1 n0⟩
    if 1 ≤ gap.toNat && gap.toNat ≤ 50 && 1 ≤ spacing.toNat && spacing.toNat ≤ 8 && 1 ≤ share.toNat
        && share.toNat ≤ 8 && 1 ≤ pace.toNat && pace.toNat ≤ 8 && 1 ≤ p.bulkBackoff.toNat
        && 10 ≤ p.noticeResend.toNat then some p
    else none
  | _ => none

/-- A node record whose every field lies in its range (R40, R156). -/
def NodeConfig.ofBytes : List Byte → Option NodeConfig
  | [en, inLen, outLen, t1, t0, retry, threshold, probeInt, s1, s0, ntf] =>
    match Notify.ofCode ntf with
    | none => none
    | some notify =>
      if en.toNat ≤ 1 && inLen.toNat ≤ 32 && outLen.toNat ≤ 16 && 2 ≤ (half t1 t0).toNat
          && (half t1 t0).toNat ≤ 2000 && retry.toNat ≤ 3 && 1 ≤ threshold.toNat
          && threshold.toNat ≤ 15 && 1 ≤ probeInt.toNat && 1 ≤ (half s1 s0).toNat then
        some ⟨en == 1, inLen, outLen, half t1 t0, retry, threshold, probeInt, half s1 s0, notify⟩
      else none
  | _ => none

/-- A main entry whose every field lies in its load range (R157). -/
def MainEntry.ofBytes : List Byte → Option MainEntry
  | [node, divisor, phase] =>
    if isNodeAddr node && 1 ≤ divisor.toNat && divisor.toNat ≤ 16 && phase.toNat ≤ 15 then
      some ⟨node, divisor, phase⟩
    else none
  | _ => none

/-- An interleave entry whose node lies in its load range (R157). -/
def interleaveOfBytes : List Byte → Option Byte
  | [node] => if isNodeAddr node then some node else none
  | _ => none

/-- `count` records of `size` bytes each; none where one of them is out of range. -/
def readRecords {α : Type} (ofBytes : List Byte → Option α) (size : Nat) : Nat → List Byte → Option (List α)
  | 0, _ => some []
  | k + 1, bytes =>
    match ofBytes (bytes.take size), readRecords ofBytes size k (bytes.drop size) with
    | some r, some rs => some (r :: rs)
    | _, _ => none

/-- A vector with a run of records written from a position upward. -/
def writeRecords {α : Type} {n : Nat} (v : Vector α n) : Nat → List α → Vector α n
  | _, [] => v
  | i, r :: rs => writeRecords (v.setIfInBounds i r) (i + 1) rs

/-- `count` records from a position upward. -/
def recordsFrom {α : Type} {n : Nat} (v : Vector α n) (d : α) (first count : Nat) : List α :=
  (List.range count).map fun i => v[first + i]?.getD d

end Sys2Proof.Machine
end

