-- ==== Sys2Proof/Machine/Flags.lean ====
section
/-! DEFINITION. Conditions the blocks derive from the state: quality, tags, slots, wants, timers. -/

namespace Sys2Proof.Machine

/-! ### Quality and the input reading (R66, R70) -/

/-- The quality of node n's input image (R66). -/
def State.quality (s : State) (n : Nat) : Quality :=
  if (s.image n).valid = false then .none
  else if s.health n = .offline then .lost
  else if (s.cfg n).staleLimit.toNat < (s.image n).age.toNat then .stale
  else .good

/-- The input reading of node n (R70, Table 11-2). -/
def State.reading (s : State) (n : Nat) : List Byte :=
  [(s.quality n).code] ++ halfBytes (s.image n).age ++ [(s.image n).sequence, (s.image n).status]
    ++ (if s.quality n = .none then [] else (s.image n).data)

/-! ### Tags and slots (R83, R168) -/

/-- The tags an entry holds, in list order. -/
def Entry.tagList (e : Entry) : List Byte := e.tags.map (·.tag)

/-- The outstanding tags: exactly the tags held in the entries' tag lists (R83). -/
def State.outstanding (s : State) : List Byte := s.queue.entries.flatMap Entry.tagList

/-- The limit on outstanding tags (R82). -/
def maxTags : Nat := 8

/-- The slots of the reply queue (R168). -/
def replySlots : Nat := 16

/-- The slots that are neither queued nor reserved (R168). -/
def State.freeSlots (s : State) : Nat := replySlots - (s.link.replies.length + s.outstanding.length)

/-! ### Transfers -/

/-- The transfer is active: RUNNING, WAITING or SUSPENDED (R101). -/
def BulkState.active : BulkState → Bool
  | .running | .waiting _ | .suspended _ => true
  | _ => false

/-- An active transfer to node n (R84 step 5, R119). -/
def State.bulkActiveFor (s : State) (n : Nat) : Bool := s.bulk.state.active && s.bulk.node = some n

/-- A PASS entry. -/
def EntryKind.isPass : EntryKind → Bool
  | .pass _ => true
  | _ => false

/-- A PASS entry for node n is queued or in flight (R104 step 5, R119). -/
def State.passHeldFor (s : State) (n : Nat) : Bool :=
  s.queue.entries.any fun e => e.kind.isPass && e.node == n

/-! ### Wants (R122) -/

/-- The line controller is IDLE. -/
def LinePhase.isIdle : LinePhase → Bool
  | .idle => true
  | _ => false

/-- The schedule presents a want (R5, R13, R15, R126): a ready step or a pending retry, in RUNNING, with no
min-period wait and not both the boundary mark and a pending commit. -/
def State.scheduleWant (s : State) : Bool :=
  s.sched.runState = .running && s.sched.minWait.isNone
    && !(s.sched.boundaryMark && s.tables.commitPending)
    && (s.sched.ready.isSome || s.sched.attached.any (·.retryPending))

/-- The credit and the pace restrict (R126). -/
def State.restricts (s : State) : Bool := s.scheduleWant

/-- The head of a class is a want: queued or in RETRY_PENDING (R122, places 2 and 5). -/
def State.headWant (s : State) (c : QueueClass) : Bool :=
  match s.queue.fifo c with
  | [] => false
  | e :: _ => e.phase != .onLine

/-- No order from the bulk unit is held by the line controller (R115). -/
def Bulk.noOrderHeld (b : Bulk) : Bool := b.segPhase != .onLine && b.segPhase != .detached && !b.cancelOnLine

/-- The cancel want (R115, R122 place 3). -/
def State.cancelWant (s : State) : Bool := s.bulk.cancel.isSome && s.bulk.noOrderHeld

/-- The segment want (R106, R122 place 4). -/
def State.segmentWant (s : State) : Bool :=
  s.bulk.state = .running && (s.bulk.segPhase = .none || s.bulk.segPhase = .retryPending)
    && s.bulk.nextIndex < s.bulk.segCount

/-- Some want for the line is present (R121). -/
def State.anyWant (s : State) : Bool :=
  s.sched.safeBroadcast || s.headWant .urgent || s.cancelWant || s.segmentWant || s.headWant .normal
    || s.scheduleWant

/-- An arbitration is due: the line is IDLE with a want present (R121). -/
def State.arbitrationDue (s : State) : Bool := s.line.phase.isIdle && s.anyWant

/-- The conditions of R161 hold while the commit is pending. -/
def State.applicationDue (s : State) : Bool :=
  s.tables.commitPending && s.line.phase.isIdle
    && (s.sched.runState != .running || s.sched.boundaryMark)

/-- Neither an arbitration nor an application is due: what every event leaves (R121, R161). -/
def State.decided (s : State) : Bool := !s.arbitrationDue && !s.applicationDue

/-! ### Notices and the transmitter (R147, R171) -/

/-- The notice queue presents a notice: a first send or a resend (R147). -/
def NoticeQueue.ready (q : NoticeQueue) : Bool :=
  match q.inFlight with
  | none => !q.waiting.isEmpty
  | some f => f.resend.isNone

/-- A notice is ready and the transmitter may take it: none is taken while a restart is pending (R174). -/
def State.noticeTakable (s : State) : Bool := s.notices.ready && s.link.restartPending.isNone

/-- The notices held, the one in flight included (R141). -/
def NoticeQueue.depth (q : NoticeQueue) : Nat := q.inFlight.toList.length + q.waiting.length

/-- The most notices the queue holds (R141). -/
def maxNotices : Nat := 24

/-- An OVERFLOW notice is waiting (R144). -/
def NoticeQueue.overflowWaiting (q : NoticeQueue) : Bool := q.waiting.contains .overflow

/-! ### Timers (R27; log entry 3) -/

/-- A timer that holds the tick time `t` may expire now: no less than its ticks have passed. -/
def State.due (s : State) (t : Nat) : Bool := t ≤ s.now

/-- A running timer is due. -/
def State.dueOpt (s : State) (t : Option Nat) : Bool := t.any s.due

/-- The line controller's timer, where one runs (R27). -/
def LinePhase.timers : LinePhase → List Nat
  | .gapWait _ t => t.toList
  | .awaiting _ _ t => [t]
  | .receiving _ _ _ t => t.toList
  | .draining _ _ t => t.toList
  | _ => []

/-- The receiver's inter-byte timer, where it runs. -/
def RxPhase.timers : RxPhase → List Nat
  | .hunt => []
  | .header _ t => t.toList
  | .body _ t => t.toList

/-- The backoff, where it runs. -/
def BulkState.timers : BulkState → List Nat
  | .waiting t => [t]
  | _ => []

/-- The tick times of the running timers that expire no less than n and no more than n + 1 ticks after their
start: the line controller's (R27), the receiver's (R166), the resend timer (R147), the silence timer (R133),
the backoff (R109) and the deadlines (R92). -/
def State.timers (s : State) : List Nat :=
  s.line.phase.timers ++ s.link.rx.timers ++ (s.notices.inFlight.bind (·.resend)).toList
    ++ s.link.silenceTimer.toList ++ s.bulk.state.timers
    ++ s.queue.entries.flatMap fun e => e.tags.filterMap (·.expiry)

/-- An expiry must be taken before the tick time moves on: a running timer has used up its n + 1 ticks, or the
min-period wait has reached its expiry time, a fixed tick that R15 gives no tolerance (log entry 3). -/
def State.overdue (s : State) : Bool := (s.timers.any fun t => t < s.now) || s.dueOpt s.sched.minWait

end Sys2Proof.Machine
end

