-- ==== Sys2Proof/Machine/Queues.lean ====
section
/-! DEFINITION. The notice queue's offers, the reply queue, the transmitter, and the first steps of a valid frame. -/

namespace Sys2Proof.Machine

/-! ### Offers (R142 to R144) -/

/-- The waiting notice an offer leaves when it joins it, if it may join it (R143). -/
def Notice.join : Notice → Notice → Option Notice
  | .change n _, .change m missed => if n = m then some (.change m (satInc missed)) else none
  | .health n _, .health m transitions => if n = m then some (.health m (satInc transitions)) else none
  | .attention n, .attention m => if n = m then some (.attention m) else none
  | .cycleOverrun, .cycleOverrun => some .cycleOverrun
  | _, _ => none

/-- The waiting notices with the offer joined to the first it may join; none where it may join none. -/
def joinWaiting (offer : Notice) : List Notice → Option (List Notice)
  | [] => none
  | w :: ws =>
    match offer.join w with
    | some j => some (j :: ws)
    | none => (joinWaiting offer ws).map (w :: ·)

/-- The notice queue after an offer: join, append or lost, the first that holds (R142, R144). -/
def NoticeQueue.offer (q : NoticeQueue) (n : Notice) : NoticeQueue :=
  match joinWaiting n q.waiting with
  | some ws => { q with waiting := ws }
  | none =>
    if q.depth < maxNotices then { q with waiting := q.waiting ++ [n] }
    else { q with lost := satInc q.lost, overflowPending := q.overflowPending || !q.overflowWaiting }

/-- A producer offers a notice. -/
def State.offer (s : State) (n : Notice) : State := s.withNotices (s.notices.offer n)

/-! ### Replies (R168, R170) -/

/-- A reply frame is handed to the link port and queued at the tail. -/
def State.queueReply (s : State) (f : UpFrame) : State :=
  s.withLink { s.link with replies := s.link.replies ++ [f] }

/-- A request is answered with a result and its content. -/
def State.reply (s : State) (addr cmd tag : Byte) (r : Result) (content : List Byte) : State :=
  s.queueReply (replyFrame addr cmd tag r content)

/-! ### The transmitter (R145, R147, R171) -/

/-- The content of a notice as fixed at its first send (R145). -/
def State.fixNotice (s : State) : Notice → SentNotice
  | .restart r => .restart r
  | .change n missed => .change n (s.image n).sequence missed
  | .health n transitions => .health n (s.health n) transitions
  | .attention n => .attention n
  | .bulkEnd n o acked => .bulkEnd n o acked
  | .commitApplied g => .commitApplied g
  | .cycleOverrun => .cycleOverrun s.sched.overrun
  | .safeEntered => .safeEntered
  | .overflow => .overflow s.notices.lost

/-- The resend timer as started at every taking (R147). -/
def State.resendStart (s : State) : Option Nat := some (s.now + s.params.noticeResend.toNat)

/-- The notice queue's side of a taking: a first send of the oldest waiting notice, or a resend of the one
in flight (R145, R147).  The second part is the notice that goes out. -/
def State.noticeTaken (s : State) : Option (NoticeQueue × InFlight) :=
  let q := s.notices
  match q.inFlight with
  | some f =>
    let g := { f with resend := s.resendStart }
    some ({ q with inFlight := some g }, g)
  | none =>
    match q.waiting with
    | [] => none
    | n :: rest =>
      let g : InFlight := ⟨s.fixNotice n, q.sequence, s.resendStart⟩
      some ({ q with inFlight := some g, waiting := rest, sequence := q.sequence + 1 }, g)

/-- The transmitter takes the ready notice: case 1 of R171. -/
def State.takeNotice (s : State) : State :=
  match s.noticeTaken with
  | none => s
  | some (q, f) =>
    (s.withNotices q).withLink { s.link with tx := .sendingNotice f.frame, replyRun := 0 }

/-- The transmitter takes the oldest reply frame: case 2 of R171. -/
def State.takeReply (s : State) : State :=
  s.withLink { s.link with tx := .sendingReply, replyRun := min 4 (s.link.replyRun + 1) }

/-- The IDLE transmitter's choice at the end of a frame (R171). -/
def State.txNext (s : State) : State :=
  if s.noticeTakable && (s.link.replies.isEmpty || s.link.replyRun == 4) then s.takeNotice
  else if !s.link.replies.isEmpty then s.takeReply
  else s.withLink { s.link with replyRun := 0 }

/-- The IDLE transmitter's choice in any other event.  An IDLE transmitter had nothing to send before the
event, so a reply and a notice that are both there came in this event, in either order (R171; log entry
12).  While RESET is asserted nothing is taken (R38). -/
def State.wake (s : State) : State :=
  if s.link.tx != .idle || s.resetAsserted then s
  else if s.noticeTakable && !s.link.replies.isEmpty then
    if Config.noticeReadyFirst s.choices then s.countChoice.takeNotice else s.countChoice.takeReply
  else s.txNext

/-! ### Valid frames (R133, R167 to R169, R174) -/

/-- The silence timer restarted, or not running while silence_limit is 0 (R133). -/
def State.silenceRestart (s : State) : Option Nat :=
  if s.params.silenceLimit = 0 then s.link.silenceTimer
  else some (s.now + s.params.silenceLimit.toNat)

/-- Steps 1 and 2 of R167, and the receiver's return to HUNT. -/
def State.frameCounted (s : State) : State :=
  s.withLink { s.link with
    rx := .hunt
    counters := { s.link.counters with validFrames := satInc s.link.counters.validFrames }
    armed := true
    silenceTimer := s.silenceRestart }

/-- A valid frame is discarded and counted as a link discard (R168, R174). -/
def State.discarded (s : State) : State :=
  s.withLink { s.link with counters := { s.link.counters with discards := satInc s.link.counters.discards } }

/-- The receiver can complete this frame now: it has collected all of it but the second check byte, or it is
in HUNT and the command stands for all the frame's characters (R166, R167; log entry 1). -/
def State.frameFits (s : State) (f : UpFrame) : Bool :=
  fitsFrame f.payload &&
    match s.link.rx with
    | .hunt => true
    | .header _ _ => false
    | .body got _ => got == f.body ++ [(checkPair f.body).1]

end Sys2Proof.Machine
end

