-- ==== Sys2Proof/Machine/LineOps.lean ====
section
/-! DEFINITION. The line controller: acceptance of an order, frame building, validation of a reply. -/

namespace Sys2Proof.Machine

/-- The line controller in another phase. -/
def State.setPhase (s : State) (p : LinePhase) : State := s.withLine { s.line with phase := p }

/-- The line counters changed. -/
def State.countLine (s : State) (f : LineCounters → LineCounters) : State :=
  s.withLine { s.line with counters := f s.line.counters }

/-- The active down_gap in ticks (R152). -/
def State.downGap (s : State) : Nat := s.params.downGap.toNat

/-- Output selection at the SENDING of an EXCHANGE to node n (R75). -/
def State.outputBlock (s : State) (n : Nat) : Option (List Byte) :=
  if (s.cfg n).outputLen != 0 && (s.image n).outSet && !s.sched.safe then some (s.image n).outData
  else none

/-- The output block an order's frame carries: an EXCHANGE asks for one, no other request does (R30). -/
def State.blockFor (s : State) (o : Order) : Option (List Byte) :=
  match o.request with
  | .exchange => s.outputBlock o.addr
  | _ => none

/-- The frame of an order, built from the order and the state of this moment (R21, R23, R30). -/
def State.buildFrame (s : State) (o : Order) : List Byte :=
  downFrame (natByte o.addr) o.request.kindCode (o.request.payload (s.blockFor o))

/-- SENDING begins: the frame is built and the line direction set to transmit (R30). -/
def State.beginSending (s : State) (o : Order) : State :=
  s.withLine { s.line with
    phase := .sending o (s.buildFrame o) (s.blockFor o).isSome
    direction := .transmit }

/-- The line controller accepts an order in IDLE (R28): it waits for the rest of the down_gap, or for the end
of the character in progress, or begins SENDING at once when the line has been quiet long enough. -/
def State.acceptOrder (s : State) (o : Order) : State :=
  if s.line.charIn || s.line.cutChar then s.setPhase (.gapWait o none)
  else if s.line.quietSince + s.downGap ≤ s.now then s.beginSending o
  else s.setPhase (.gapWait o (some (s.line.quietSince + s.downGap)))

/-- A received character has arrived: it ends now and quiet is measured from here (R27). -/
def State.charArrived (s : State) : State :=
  s.withLine { s.line with charIn := false, charForeign := false, quietSince := s.now }

/-- The inter-byte limit of the downstream line in ticks (R32 to R34). -/
def downInterByte : Nat := 10

/-- The downstream inter-byte timer as started or restarted now. -/
def State.downTimer (s : State) : Option Nat := some (s.now + downInterByte)

/-- A stray byte is counted (R37). -/
def countStray (c : LineCounters) : LineCounters := { c with strayBytes := satInc c.strayBytes }

/-- The largest LEN of a downstream frame (R21). -/
def downMaxLen : Nat := 40

/-- The next byte is the second check byte: ADDR, KIND, LEN, the payload and check byte A are in (R33). -/
def replyLastByte (got : List Byte) : Bool :=
  match got with
  | _ :: _ :: len :: rest => rest.length == len.toNat + 1
  | _ => false

/-- The content of a complete frame that is a valid reply to a request under R24, other than ERROR. -/
def validContent (cfg : NodeConfig) (req : Request) (kind : Byte) (payload : List Byte) : Option ReplyContent :=
  match req with
  | .exchange =>
    match payload with
    | status :: block =>
      if kind = 0x81 ∧ block.length = cfg.inputLen.toNat then some (.data status block) else none
    | [] => none
  | .status =>
    match payload with
    | [status, nodeType] => if kind = 0x82 then some (.statusReply status nodeType) else none
    | _ => none
  | .pass _ =>
    match payload with
    | status :: bytes => if kind = 0x83 ∧ bytes.length ≤ 32 then some (.passReply status bytes) else none
    | [] => none
  | .segment index _ _ _ =>
    match payload with
    | [i] => if kind = 0x84 ∧ i = natByte index then some .segAck else none
    | [i, reason] =>
      if kind = 0x85 ∧ i = natByte index then
        if reason = 0x01 then some .segNakBusy else if reason = 0x02 then some .segNakReject else none
      else none
    | _ => none
  | .safe => none

/-- The outcome of a complete reply: steps 3 to 8 of R35, over the bytes from ADDR to check byte B. -/
def judgeReply (cfg : NodeConfig) (o : Order) (bytes : List Byte) : LineOutcome :=
  let n := bytes.length - 2
  let covered := bytes.take n
  match covered with
  | addr :: kind :: _ :: payload =>
    if bytes.drop n ≠ [(checkPair covered).1, (checkPair covered).2] then .failure .badCheck
    else if addr.getLsbD 7 = false then .failure .malformed
    else if (addr &&& 0x1F).toNat ≠ o.addr then .failure .wrongSource
    else if kind = 0x8E then
      match payload with
      | [code] => .nodeError code
      | _ => .failure .malformed
    else
      match validContent cfg o.request kind payload with
      | some c => .replied c
      | none => .failure .malformed
  | _ => .failure .malformed

/-- The counter of an outcome raised by one (R37). -/
def LineOutcome.count (c : LineCounters) : LineOutcome → LineCounters
  | .replied _ => { c with replied := satInc c.replied }
  | .nodeError _ => { c with nodeErrors := satInc c.nodeErrors }
  | .failure .timeout => { c with timeouts := satInc c.timeouts }
  | .failure .badCheck => { c with badChecks := satInc c.badChecks }
  | .failure .malformed => { c with malformed := satInc c.malformed }
  | .failure .wrongSource => { c with wrongSources := satInc c.wrongSources }
  | .sent => c

/-- The outcome is a failure (R26, R43). -/
def LineOutcome.isFailure : LineOutcome → Bool
  | .failure _ => true
  | _ => false

end Sys2Proof.Machine
end

