-- ==== Sys2Proof/Machine/Schedule.lean ====
section
/-! DEFINITION. The poll schedule: the walk, the cycle boundary, finality and the schedule restart. -/

namespace Sys2Proof.Machine

/-! ### The active schedule (R2) -/

/-- The active main_len. -/
def State.mainLen (s : State) : Nat := s.tables.active.mainLen

/-- The active interleave_len. -/
def State.ilLen (s : State) : Nat := s.tables.active.ilLen

/-- Main entry i of the active schedule. -/
def State.mainEntry (s : State) (i : Nat) : MainEntry := s.tables.active.main[i]?.getD MainEntry.cleared

/-- The node of interleave entry p of the active schedule. -/
def State.ilNode (s : State) (p : Nat) : Nat := (s.tables.active.interleave[p]?.getD 0).toNat

/-- A main entry is due in cycle c (R3). -/
def MainEntry.due (e : MainEntry) (c : Half) : Bool := c.toNat % e.divisor.toNat == e.phase.toNat

/-- The interleave pointer after pointer p (R8, R11). -/
def State.nextPointer (s : State) (p : Nat) : Nat := if s.ilLen = 0 then 0 else (p + 1) % s.ilLen

/-! ### The cycle boundary (R12, R14 to R16) -/

/-- The cycle is tested for an overrun and has overrun (R16). -/
def State.overran (s : State) : Bool :=
  match s.sched.cycleStart with
  | none => false
  | some start =>
    s.params.cycleMinPeriod != 0 && decide (s.params.cycleMinPeriod.toNat < s.now - start)
      && !s.sched.suspendedMark

/-- The min-period wait that the boundary starts (R15), or the one that is there. -/
def State.boundaryWait (s : State) : Option Nat :=
  match s.sched.cycleStart with
  | none => s.sched.minWait
  | some start =>
    if s.params.cycleMinPeriod != 0 && decide (s.now < start + s.params.cycleMinPeriod.toNat) then
      some (start + s.params.cycleMinPeriod.toNat)
    else s.sched.minWait

/-- A node's record at a cycle boundary: the countdown of an OFFLINE node falls by 1, stopping at 0. -/
def NodeRt.atBoundary (r : NodeRt) : NodeRt :=
  if r.health = .offline ∧ r.countdown ≠ 0 then { r with countdown := r.countdown - 1 } else r

/-- The scheduler's own part of a cycle boundary. -/
def State.boundarySched (s : State) : Sched :=
  { s.sched with
    cycleNumber := s.sched.cycleNumber + 1
    overrun := if s.overran then satInc s.sched.overrun else s.sched.overrun
    minWait := s.boundaryWait
    boundaryMark := true
    phase := .sweep
    sweepAddr := 1
    mainIndex := 0
    cycleStart := none
    suspendedMark := false }

/-- A cycle boundary (R12), with the overrun's notice (R16). -/
def State.cycleBoundary (s : State) : State :=
  let s1 := (s.withNodes (tabulate fun n => (s.node n).atBoundary)).withSched s.boundarySched
  if s.overran then s1.offer .cycleOverrun else s1

/-! ### The schedule walk (R5 to R8) -/

/-- The lowest node address, not below the sweep address, whose node's probe is due (R6). -/
def State.dueProbe (s : State) : Option Nat :=
  nodeAddrs.find? fun a =>
    decide (s.sched.sweepAddr ≤ a) && s.health a = .offline && (s.node a).countdown = 0

/-- The scheduler rests with a ready step. -/
def State.rest (s : State) (kind : StepKind) (node pos : Nat) : State :=
  s.withSched { s.sched with ready := some ⟨kind, node, pos⟩ }

/-- One move of the walk; the second part says whether the walk goes on (R6 to R8).  DESIGN CHOICE (log entry 33):
the record of a PROBE step holds, as the sweep address it came from (R4), the address at which the sweep found
its node. -/
def State.walkMove (s : State) : State × Bool :=
  match s.sched.phase with
  | .sweep =>
    match s.dueProbe with
    | some a => (s.rest .probe a a, false)
    | none => (s.withSched { s.sched with phase := .main, sweepAddr := 31 }, true)
  | .main =>
    let i := s.sched.mainIndex
    let p := s.sched.ilPointer
    if 0 < s.ilLen ∧ s.sched.spacing = s.params.interleaveSpacing.toNat then
      if s.health (s.ilNode p) = .offline then
        (s.withSched { s.sched with ilPointer := s.nextPointer p, spacing := 0 }, true)
      else (s.rest .interleave (s.ilNode p) p, false)
    else if s.mainLen ≤ i then
      let s1 := s.cycleBoundary
      (s1, s1.sched.minWait.isNone && !s1.tables.commitPending)
    else if (s.mainEntry i).due s.sched.cycleNumber ∧ s.health (s.mainEntry i).node.toNat ≠ .offline then
      (s.rest .main (s.mainEntry i).node.toNat i, false)
    else (s.withSched { s.sched with mainIndex := i + 1 }, true)

/-- The walk, for at most so many moves. -/
def walkMoves : Nat → State → State
  | 0, s => s
  | k + 1, s =>
    let r := s.walkMove
    if r.2 then walkMoves k r.1 else r.1

/-- More moves than a walk over tables that passed validation takes (R14: at most a few hundred empty cycles;
log entry 22). -/
def walkBound : Nat := 40000

/-- The schedule walk, taken only in RUNNING, with no ready step, no attached step and no min-period wait
(R5), and finding nothing while main_len is 0 (R19). -/
def State.walk (s : State) : State :=
  if s.sched.runState = .running ∧ s.sched.ready = none ∧ s.sched.attached = none
      ∧ s.sched.minWait = none ∧ 0 < s.mainLen then walkMoves walkBound s
  else s

/-! ### Finality (R10, R11) -/

/-- The position after a step is final (R11), which is also the position after it is dropped (R10). -/
def State.passStep (s : State) (st : SchedStep) : Sched :=
  match st.kind with
  | .main => { s.sched with mainIndex := st.pos + 1 }
  | .interleave => { s.sched with ilPointer := s.nextPointer st.pos, spacing := 0 }
  | .probe => { s.sched with sweepAddr := st.pos + 1 }

/-- The attached step becomes final: it is absent, the position moves and, in RUNNING, the walk is taken. -/
def State.stepFinal (s : State) (st : SchedStep) : State :=
  (s.withSched { s.passStep st with attached := none }).walk

/-- A ready step is dropped at ordering and the walk is taken again (R10). -/
def State.dropReady (s : State) (st : SchedStep) : State :=
  (s.withSched { s.passStep st with ready := none }).walk

/-- A schedule step passes the health test before ordering (R10). -/
def State.stepTest (s : State) (st : SchedStep) : Bool :=
  match st.kind with
  | .probe => s.health st.node = .offline
  | .main | .interleave => s.health st.node != .offline

/-! ### The schedule restart (R17) -/

/-- The scheduler after a schedule restart.  `keepWait` is set where the restart is taken at application. -/
def State.restartSched (s : State) (keepWait : Bool) : Sched :=
  { s.sched with
    phase := .sweep
    sweepAddr := 1
    mainIndex := 0
    ilPointer := 0
    spacing := 0
    ready := none
    attached := none
    detached :=
      match s.sched.attached with
      | some a => if a.retryPending then s.sched.detached else some a.step
      | none => s.sched.detached
    cycleStart := none
    suspendedMark := false
    boundaryMark := decide (s.mainLen = 0)
    minWait := if keepWait then s.sched.minWait else none }

/-- The schedule restart, with the walk that follows it in RUNNING. -/
def State.scheduleRestart (s : State) (keepWait : Bool) : State := (s.withSched (s.restartSched keepWait)).walk

end Sys2Proof.Machine
end

