-- ==== Sys2Proof/Machine/Completion.lean ====
section
/-! DEFINITION. The request queue's entries, joins, removals and completions, and the ends of a transfer. -/

namespace Sys2Proof.Machine

/-! ### Entries (R80 to R87) -/

/-- The command whose request made an entry; its code stands in the reply (R80, R170). -/
def EntryKind.command : EntryKind → Command
  | .refresh => .readInput
  | .exchange => .exchange
  | .pass _ => .pass
  | .probe => .probe

/-- The transaction an entry is ordered as (R80). -/
def EntryKind.request : EntryKind → Request
  | .refresh => .exchange
  | .exchange => .exchange
  | .pass bytes => .pass bytes
  | .probe => .status

/-- The class the URGENT flag selects (R80). -/
def classOf (urgent : Bool) : QueueClass := if urgent then .urgent else .normal

/-- A tag as accepted now: its expiry time is the acceptance time plus the deadline (R81, R92). -/
def State.tagSlot (s : State) (tag : Byte) (deadline : Option Half) : TagSlot :=
  ⟨tag, deadline.map fun d => s.now + d.toNat⟩

/-- A new entry for one tag. -/
def newEntry (kind : EntryKind) (node : Nat) (t : TagSlot) : Entry := ⟨kind, node, [t], 0, .queued⟩

/-- A new entry joins the tail of a class (R82, R85, R86). -/
def State.enqueue (s : State) (c : QueueClass) (e : Entry) : State :=
  s.withQueue (s.queue.setFifo c (s.queue.fifo c ++ [e]))

/-- A REFRESH entry for node n that is queued, not ordered (R87). -/
def Entry.joinable (n : Nat) (e : Entry) : Bool := e.kind == .refresh && e.node == n && e.phase == .queued

/-- An entry with a tag appended to its list. -/
def Entry.addTag (e : Entry) (t : TagSlot) : Entry := { e with tags := e.tags ++ [t] }

/-- The class with the tag joined to its joinable entry. -/
def joinIn (n : Nat) (t : TagSlot) (l : List Entry) : List Entry :=
  l.map fun e => if e.joinable n then e.addTag t else e

/-- A refresh is taken by the queue: cases 2 and 3 of R87. -/
def State.takeRefresh (s : State) (n : Nat) (urgent : Bool) (t : TagSlot) : State :=
  let q := s.queue
  if q.urgent.any (Entry.joinable n) then s.withQueue { q with urgent := joinIn n t q.urgent }
  else
    match q.normal.find? (Entry.joinable n) with
    | some e =>
      if urgent then
        s.withQueue ⟨q.urgent ++ [e.addTag t], q.normal.filter fun x => !x.joinable n⟩
      else s.withQueue { q with normal := joinIn n t q.normal }
    | none => s.enqueue (classOf urgent) (newEntry .refresh n t)

/-! ### Removal of one tag (R93, R94) -/

/-- The entry that holds a tag. -/
def State.entryOf (s : State) (tag : Byte) : Option Entry :=
  s.queue.entries.find? fun e => e.tagList.contains tag

/-- An entry without a tag, or nothing where its list is then empty. -/
def Entry.dropTag (tag : Byte) (e : Entry) : Option Entry :=
  let tags := e.tags.filter fun t => t.tag != tag
  if tags.isEmpty then none else some { e with tags := tags }

/-- The queue with a tag removed from its entry, and the entry removed where its list is then empty. -/
def ReqQueue.dropTag (q : ReqQueue) (tag : Byte) : ReqQueue :=
  ⟨q.urgent.filterMap (Entry.dropTag tag), q.normal.filterMap (Entry.dropTag tag)⟩

/-! ### Completion (R90, R91) -/

/-- The reply frames of an entry's tags, in list order. -/
def Entry.replies (e : Entry) (r : Result) (content : List Byte) : List UpFrame :=
  e.tagList.map fun t => replyFrame (natByte e.node) e.kind.command.code t r content

/-- Every entry for which `verdict` gives a result is completed: its tags are answered in queue order and it
is removed (R91). -/
def State.complete (s : State) (verdict : Entry → Option (Result × List Byte)) : State :=
  let frames := s.queue.entries.flatMap fun e =>
    match verdict e with
    | some (r, content) => e.replies r content
    | none => []
  (s.withQueue ⟨s.queue.urgent.filter fun e => (verdict e).isNone,
                s.queue.normal.filter fun e => (verdict e).isNone⟩).withLink
    { s.link with replies := s.link.replies ++ frames }

/-- What the entry of node n to OFFLINE completes (R95). -/
def State.offlineVerdict (s : State) (n : Nat) (e : Entry) : Option (Result × List Byte) :=
  if e.node = n ∧ e.phase ≠ .onLine then
    match e.kind with
    | .probe => none
    | .refresh => some (.refreshFailed, s.reading n)
    | .exchange | .pass _ => some (.nodeOffline, [])
  else none

/-- What SAFE entry completes: every PASS entry whose order is not on the line, and, where the line
controller has withdrawn a PASS order from GAP_WAIT, the entry of that order, the one ON_LINE (R96). -/
def safeVerdict (passWithdrawn : Bool) (e : Entry) : Option (Result × List Byte) :=
  if e.kind.isPass ∧ (e.phase ≠ .onLine ∨ passWithdrawn = true) then some (.safeState, []) else none

/-- The results of a completion on an outcome (R90). -/
def State.outcomeResult (s : State) (e : Entry) (outputSent : Bool) : LineOutcome → Result × List Byte
  | .replied c =>
    match e.kind, c with
    | .refresh, _ => (.ok, s.reading e.node)
    | .exchange, _ => (.ok, flagByte outputSent :: s.reading e.node)
    | .pass _, .passReply status bytes => (.ok, status :: bytes)
    | .probe, .statusReply status nodeType => (.ok, [status, nodeType, (s.health e.node).code])
    | _, _ => (.ok, [])
  | .nodeError code =>
    match e.kind with
    | .refresh => (.refreshFailed, s.reading e.node)
    | .exchange => (.nodeError, [flagByte outputSent, code])
    | .pass _ => (.nodeError, [code])
    | .probe => (.nodeError, [code, (s.health e.node).code])
  | .failure k =>
    match e.kind with
    | .refresh => (.refreshFailed, s.reading e.node)
    | .exchange => (.lineFailure, [flagByte outputSent, k.code])
    | .pass _ => (.lineFailure, [k.code])
    | .probe => (.lineFailure, [k.code, (s.health e.node).code])
  | .sent => (.ok, [])

/-- The head of a class is completed and removed. -/
def State.completeHead (s : State) (c : QueueClass) (r : Result) (content : List Byte) : State :=
  match s.queue.fifo c with
  | [] => s
  | e :: rest =>
    (s.withQueue (s.queue.setFifo c rest)).withLink
      { s.link with replies := s.link.replies ++ e.replies r content }

/-- The head of a class changed. -/
def State.setHead (s : State) (c : QueueClass) (e : Entry) : State :=
  match s.queue.fifo c with
  | [] => s
  | _ :: rest => s.withQueue (s.queue.setFifo c (e :: rest))

/-! ### Ends of a transfer (R110, R114, R116, R117) -/

/-- The BULK_END notice of a record, as handed over in the ending event (R117). -/
def Bulk.endNotice (b : Bulk) (o : BulkOutcome) : Notice := .bulkEnd (b.node.getD 0) o b.acked

/-- A segment phase at an ending by another block: a pending retry is dropped (R116). -/
def SegPhase.dropRetry : SegPhase → SegPhase
  | .retryPending => .none
  | p => p

/-- An active transfer ends, with its BULK_END notice; `b` is the record as the ending event leaves it but
for its state. -/
def State.endTransfer (s : State) (b : Bulk) (o : BulkOutcome) : State :=
  (s.withBulk { b with state := .ended o }).offer (b.endNotice o)

/-- The bulk unit takes the entry of node n to OFFLINE (R116). -/
def State.bulkOffline (s : State) (n : Nat) : State :=
  if s.bulkActiveFor n then
    s.endTransfer { s.bulk with segPhase := s.bulk.segPhase.dropRetry } (.failed .nodeOffline)
  else s

end Sys2Proof.Machine
end

