-- ==== Sys2Proof/Machine/Outcome.lean ====
section
/-! DEFINITION. What each block does with an outcome: node table, image store, and the attempt's owner. -/

namespace Sys2Proof.Machine

/-! ### Node table (R43 to R49) -/

/-- A node's record with an outcome counted (R43). -/
def NodeRt.counted (r : NodeRt) (failed : Bool) : NodeRt :=
  { r with attempts := satInc r.attempts, failures := if failed then satInc r.failures else r.failures }

/-- The health after a valid reply (R44). -/
def Health.afterReply : Health → Health
  | .disabled => .disabled
  | .probing | .online | .suspect | .offline => .online

/-- A HEALTH notice goes with a valid reply (R44). -/
def Health.replyNotifies : Health → Bool
  | .probing | .offline => true
  | _ => false

/-- A node's record after a valid reply (R44). -/
def NodeRt.afterReply (r : NodeRt) : NodeRt :=
  { r with
    failCount := 0
    health := r.health.afterReply
    countdown := if r.health = .offline then 0 else r.countdown }

/-- The fail_count after a failure (R45). -/
def NodeRt.raisedFail (r : NodeRt) (threshold : Nat) : Nat :=
  if r.failCount = threshold then r.failCount else r.failCount + 1

/-- The health after a failure that leaves the given fail_count (R45). -/
def Health.afterFailure (h : Health) (fail threshold : Nat) : Health :=
  match h with
  | .disabled => .disabled
  | .offline => .offline
  | .online => if fail < threshold then .suspect else .offline
  | .suspect => if fail < threshold then .suspect else .offline
  | .probing => if fail < threshold then .probing else .offline

/-- A node's record after a failure (R45), with the countdown loaded at an entry to OFFLINE (R49). -/
def NodeRt.afterFailure (r : NodeRt) (cfg : NodeConfig) : NodeRt :=
  let threshold := cfg.offlineThreshold.toNat
  let fail := r.raisedFail threshold
  let h := r.health.afterFailure fail threshold
  { r with
    failCount := if r.health = .disabled then r.failCount else fail
    health := h
    countdown := if h = .offline ∧ r.health ≠ .offline then cfg.probeInterval else r.countdown }

/-- The status byte of a valid reply that carries one (R47). -/
def LineOutcome.statusByte : LineOutcome → Option Byte
  | .replied (.data status _) => some status
  | .replied (.statusReply status _) => some status
  | .replied (.passReply status _) => some status
  | _ => none

/-- The ATTENTION bit of a status byte (R178). -/
def attentionBit (status : Byte) : Bool := status.getLsbD 7

/-- The attention flag after an outcome (R47). -/
def LineOutcome.attention (o : LineOutcome) (flag : Bool) : Bool :=
  match o.statusByte with
  | some status => attentionBit status
  | none => flag

/-- A node's record after an outcome (R43 to R45, R47). -/
def NodeRt.take (r : NodeRt) (cfg : NodeConfig) (o : LineOutcome) : NodeRt :=
  let c := r.counted o.isFailure
  let h := if o.isFailure then c.afterFailure cfg else c.afterReply
  { h with attention := o.attention r.attention }

/-- The outcome is an entry to OFFLINE: the entered-OFFLINE mark (R45, R46). -/
def NodeRt.enters (r : NodeRt) (cfg : NodeConfig) (o : LineOutcome) : Bool :=
  r.health != .offline && (r.take cfg o).health == .offline

/-- The outcome offers a HEALTH notice (R48). -/
def NodeRt.healthNotice (r : NodeRt) (cfg : NodeConfig) (o : LineOutcome) : Bool :=
  if o.isFailure then r.enters cfg o else r.health.replyNotifies

/-- The outcome offers an ATTENTION notice: a clear-to-set change (R47, R48). -/
def NodeRt.attentionNotice (r : NodeRt) (o : LineOutcome) : Bool := !r.attention && o.attention r.attention

/-- A notice offered where a condition holds. -/
def State.offerIf (s : State) (b : Bool) (n : Notice) : State := if b then s.offer n else s

/-- The request queue and the bulk unit take the entry of node n to OFFLINE (R49, R95, R116). -/
def State.handOffline (s : State) (n : Nat) : State := (s.complete (s.offlineVerdict n)).bulkOffline n

/-- The node table takes an outcome for node n (R43 to R49): record, HEALTH notice, ATTENTION notice, and at
an entry to OFFLINE the hand-over. -/
def State.nodeTakes (s : State) (n : Nat) (o : LineOutcome) : State :=
  let r := s.node n
  let cfg := s.cfg n
  let s1 := s.setNode n (r.take cfg o)
  let s2 := s1.offerIf (r.healthNotice cfg o) (.health n 0)
  let s3 := s2.offerIf (r.attentionNotice o) (.attention n)
  if r.enters cfg o then s3.handOffline n else s3

/-! ### Image store (R64, R68, R69) -/

/-- A DATA reply is a change (R68). -/
def Image.isChange (i : Image) (notify : Notify) (status : Byte) (block : List Byte) : Bool :=
  match notify with
  | .none => false
  | .anyChange => !i.valid || block != i.data || status != i.status
  | .statusOnly => !i.valid || status != i.status

/-- The record after a DATA reply (R64). -/
def Image.update (i : Image) (status : Byte) (block : List Byte) : Image :=
  { i with data := block, status := status, sequence := i.sequence + 1, age := 0, valid := true }

/-- The image store takes a DATA reply for node n (R64, R69). -/
def State.imageTakes (s : State) (n : Nat) (status : Byte) (block : List Byte) : State :=
  let i := s.image n
  (s.setImage n (i.update status block)).offerIf (i.isChange (s.cfg n).notify status block) (.change n 0)

/-- The node table and, for a DATA reply, the image store take an outcome, in either order (R64, R69; log
entry 11). -/
def State.blocksTake (s : State) (n : Nat) (o : LineOutcome) : State :=
  match o with
  | .replied (.data status block) =>
    let s1 := s.countChoice
    if Config.imageStoreFirst s.choices then (s1.imageTakes n status block).nodeTakes n o
    else (s1.nodeTakes n o).imageTakes n status block
  | _ => s.nodeTakes n o

/-! ### The retry rule (R127) -/

/-- A retry is wanted after a failure: fewer attempts than 1 + retry_limit, and no entry to OFFLINE. -/
def State.wantsRetry (s : State) (n attempts : Nat) (entered : Bool) : Bool :=
  decide (attempts < 1 + (s.cfg n).retryLimit.toNat) && !entered

/-! ### Owners -/

/-- The schedule takes the outcome of its step (R11, R127): a detached step takes no retry decision. -/
def State.scheduleTakes (s : State) (n : Nat) (o : LineOutcome) (entered : Bool) : State :=
  match s.sched.detached, s.sched.attached with
  | some _, _ => s.withSched { s.sched with detached := none }
  | none, none => s
  | none, some a =>
    if o.isFailure && s.wantsRetry n a.attempts entered then
      s.withSched { s.sched with attached := some { a with retryPending := true } }
    else s.stepFinal a.step

/-- The request queue takes the outcome of its entry, the head of a class (R89, R90, R96). -/
def State.demandTakes (s : State) (c : QueueClass) (outputSent : Bool) (o : LineOutcome) (entered : Bool) :
    State :=
  match s.queue.fifo c with
  | [] => s
  | e :: _ =>
    if o.isFailure && s.wantsRetry e.node e.attempts entered then
      if e.kind.isPass && s.sched.safe then s.completeHead c .safeState []
      else s.setHead c { e with phase := .retryPending }
    else
      let r := s.outcomeResult e outputSent o
      s.completeHead c r.1 r.2

/-- The busy count at which a transfer ends (R108). -/
def busyLimit : Nat := 8

/-- The bulk unit takes the outcome of a data segment of its active transfer (R107, R108, R110). -/
def State.segmentTakes (s : State) (o : LineOutcome) (index : Nat) (last entered : Bool) : State :=
  let b := s.bulk
  match o with
  | .replied .segAck =>
    let b1 := { b with acked := b.acked + 1, nextIndex := index + 1, attempts := 0, busy := 0, segPhase := .none }
    if last then s.endTransfer b1 .done else s.withBulk b1
  | .replied .segNakBusy =>
    let b1 := { b with busy := b.busy + 1, segPhase := .none }
    if busyLimit ≤ b1.busy then s.endTransfer b1 (.failed .nodeBusy)
    else
      s.withBulk { b1 with
        attempts := 0
        state := if b.state = .running then .waiting (s.now + s.params.bulkBackoff.toNat) else b.state }
  | .replied .segNakReject => s.endTransfer { b with segPhase := .none } (.failed .rejected)
  | .nodeError _ => s.endTransfer { b with segPhase := .none } (.failed .nodeError)
  | .failure _ =>
    if s.wantsRetry (b.node.getD 0) b.attempts entered then s.withBulk { b with segPhase := .retryPending }
    else s.endTransfer { b with segPhase := .none } (.failed .lineFailure)
  | .replied _ | .sent => s

/-- The transfer takes the outcomes of its segments: RUNNING or SUSPENDED with the segment ON_LINE (R107). -/
def Bulk.takesOutcome (b : Bulk) : Bool :=
  b.segPhase == .onLine &&
    match b.state with
    | .running | .suspended _ => true
    | _ => false

/-- The bulk unit takes the outcome of its order (R110, R115): a cancel frame's clears the cancel-on-line
flag, one of an ended transfer's segment clears the segment phase, and else it is the transfer's. -/
def State.bulkTakes (s : State) (req : Request) (o : LineOutcome) (entered : Bool) : State :=
  if s.bulk.cancelOnLine then s.withBulk { s.bulk with cancelOnLine := false }
  else if s.bulk.takesOutcome then
    match req with
    | .segment index last _ _ => s.segmentTakes o index last entered
    | _ => s
  else s.withBulk { s.bulk with segPhase := .none }

/-- The owner of an attempt takes its outcome, with the node table's result (R46, R127). -/
def State.ownerTakes (s : State) (ord : Order) (outputSent : Bool) (o : LineOutcome) (entered : Bool) : State :=
  match ord.owner with
  | .schedule => s.scheduleTakes ord.addr o entered
  | .demand c => s.demandTakes c outputSent o entered
  | .bulk => s.bulkTakes ord.request o entered
  | .none => s

/-- An outcome is counted and delivered, and the line controller returns to IDLE (R26, R36).  The node table
and the image store take it before the owner (R46, R64, R89).  DESIGN CHOICE (log entry 32): they take it before
the arbitration of the same event too, so a valid reply to a demand PROBE comes before the ordering of a schedule
probe of its node, where R52 allows either order. -/
def State.deliver (s : State) (ord : Order) (outputSent : Bool) (o : LineOutcome) : State :=
  let s1 := (s.countLine fun c => o.count c).setPhase .idle
  let entered := (s1.node ord.addr).enters (s1.cfg ord.addr) o
  (s1.blocksTake ord.addr o).ownerTakes ord outputSent o entered

end Sys2Proof.Machine
end

