-- ==== Sys2Proof/Machine/Arbiter.lean ====
section
/-! DEFINITION. The arbiter: which want is ordered, and what each ordering does (Sections 1, 5, 6 and 7). -/

namespace Sys2Proof.Machine

/-! ### Ordering each want -/

/-- The safe broadcast is ordered and its request cleared (R137). -/
def State.orderSafe (s : State) : State :=
  (s.withSched { s.sched with safeBroadcast := false }).acceptOrder ⟨.safe, 31, .none, 1⟩

/-- An entry as its ordering leaves it: in flight, one more attempt, its expiry times stopped (R88, R89). -/
def Entry.ordered (e : Entry) : Entry :=
  { e with
    phase := .onLine
    attempts := e.attempts + 1
    tags := e.tags.map fun t => { t with expiry := none } }

/-- The order of an entry (R25, R80, R88). -/
def Entry.order (e : Entry) (c : QueueClass) : Order := ⟨e.kind.request, e.node, .demand c, e.attempts + 1⟩

/-- The head of a class is ordered: its first attempt or its retry (R88, R89). -/
def State.orderHead (s : State) (c : QueueClass) : State :=
  match s.queue.fifo c with
  | [] => s
  | e :: _ => (s.setHead c e.ordered).acceptOrder (e.order c)

/-- The cancel frame is ordered (R115). -/
def State.orderCancel (s : State) (node index : Nat) : State :=
  (s.withBulk { s.bulk with cancel := none, cancelOnLine := true }).acceptOrder
    ⟨.segment index false true [], node, .bulk, 1⟩

/-- The bytes a segment carries (R105): 32, or as many as remain of the declared length. -/
def Bulk.segmentData (b : Bulk) (i : Nat) : List Byte :=
  b.buffer.readRun (i * 32) (min 32 (b.declared.getD 0 - i * 32))

/-- The order of the segment at the next index (R105, R106). -/
def Bulk.segmentOrder (b : Bulk) : Order :=
  ⟨.segment b.nextIndex (b.nextIndex + 1 == b.segCount) false (b.segmentData b.nextIndex),
    b.node.getD 0, .bulk, b.attempts + 1⟩

/-- The segment is ordered (R106); a first attempt sets the pace counter to 0 (R125). -/
def State.orderSegment (s : State) : State :=
  let pace := if s.bulk.segPhase = .none then 0 else s.sched.pace
  ((s.withBulk { s.bulk with attempts := s.bulk.attempts + 1, segPhase := .onLine }).withSched
    { s.sched with pace := pace }).acceptOrder s.bulk.segmentOrder

/-- The NORMAL head is ordered; a first attempt spends one credit while the credit restricts (R124). -/
def State.orderNormal (s : State) : State :=
  let first := s.queue.normal.head?.any fun e => e.phase == .queued
  let credit := if first && s.restricts then s.sched.credit - 1 else s.sched.credit
  (s.withSched { s.sched with credit := credit }).orderHead .normal

/-- The transaction of a schedule step (R9). -/
def StepKind.request : StepKind → Request
  | .probe => .status
  | .main | .interleave => .exchange

/-- The scheduler after the first attempt of a step is ordered (R9, R124, R125, R127). -/
def State.orderedSched (s : State) (st : SchedStep) : Sched :=
  { s.sched with
    ready := none
    attached := some ⟨st, 1, false⟩
    spacing := if st.kind = .main ∧ 0 < s.ilLen then s.sched.spacing + 1 else s.sched.spacing
    cycleStart := some (s.sched.cycleStart.getD s.now)
    boundaryMark := if s.sched.cycleStart.isNone then false else s.sched.boundaryMark
    credit := s.params.demandShare.toNat
    pace := min 8 (s.sched.pace + 1) }

/-- The probe countdown is loaded at the ordering of a PROBE step (R9, R51). -/
def State.loadCountdown (s : State) (st : SchedStep) : State :=
  if st.kind = .probe then
    s.setNode st.node { s.node st.node with countdown := (s.cfg st.node).probeInterval }
  else s

/-- The first attempt of a ready step is ordered (R9). -/
def State.orderStep (s : State) (st : SchedStep) : State :=
  ((s.loadCountdown st).withSched (s.orderedSched st)).acceptOrder ⟨st.kind.request, st.node, .schedule, 1⟩

/-- The retry of the attached step is ordered (R9, R128). -/
def State.orderStepRetry (s : State) (a : Attached) : State :=
  (s.withSched { s.sched with attached := some ⟨a.step, a.attempts + 1, false⟩ }).acceptOrder
    ⟨a.step.kind.request, a.step.node, .schedule, a.attempts + 1⟩

/-! ### Looking at the wants (R122, R123) -/

/-- The cancel node passes the health test (R115, R123). -/
def State.cancelTest (s : State) (n : Nat) : Bool := s.health n != .offline && s.health n != .disabled

/-- A segment may be ordered: a retry always, a first attempt when the pace allows it (R125, R126). -/
def State.segmentAllowed (s : State) : Bool :=
  s.bulk.segPhase = .retryPending || !s.restricts || s.params.bulkPace.toNat ≤ s.sched.pace

/-- The NORMAL head may be ordered: a retry always, a first attempt when the credit allows it (R124,
R126). -/
def State.normalAllowed (s : State) : Bool :=
  (s.queue.normal.head?.any fun e => e.phase == .retryPending) || !s.restricts || 0 < s.sched.credit

/-- Places 4 and 5 of R122. -/
def State.arbitrateLow (s : State) : State × Bool :=
  if s.segmentWant && s.segmentAllowed then (s.orderSegment, true)
  else if s.headWant .normal && s.normalAllowed then (s.orderNormal, true)
  else (s, false)

/-- Places 1 to 5 of R122; the second part says whether a want was ordered.  A cancel that fails its test is
dropped, and the next place is looked at (R115, R123). -/
def State.arbitrateFive (s : State) : State × Bool :=
  if s.sched.safeBroadcast then (s.orderSafe, true)
  else if s.headWant .urgent then (s.orderHead .urgent, true)
  else
    match s.bulk.cancel with
    | some (node, index) =>
      if s.bulk.noOrderHeld then
        if s.cancelTest node then (s.orderCancel node index, true)
        else (s.withBulk { s.bulk with cancel := none }).arbitrateLow
      else s.arbitrateLow
    | none => s.arbitrateLow

/-- The schedule want passes the schedule's test (R10). -/
def State.scheduleTest (s : State) : Bool :=
  match s.sched.ready, s.sched.attached with
  | some st, _ => s.stepTest st
  | none, some a => s.stepTest a.step
  | none, none => false

/-- The schedule want is ordered under R9. -/
def State.orderSchedule (s : State) : State :=
  match s.sched.ready, s.sched.attached with
  | some st, _ => s.orderStep st
  | none, some a => s.orderStepRetry a
  | none, none => s

/-- A schedule want that fails its test is dealt with under R10: a ready step is dropped and the walk taken
again, a pending retry is dropped and its step becomes final. -/
def State.dropSchedule (s : State) : State :=
  match s.sched.ready, s.sched.attached with
  | some st, _ => s.dropReady st
  | none, some a => s.stepFinal a.step
  | none, none => s

/-- One arbitration (R121 to R123).  A failed schedule want leaves the want of the repeated walk, which is
ordered; where it leaves none, the wants are looked at again from the first place. -/
def State.arbitrate (s : State) : State :=
  let r := s.arbitrateFive
  if r.2 then r.1
  else if !r.1.scheduleWant then r.1
  else if r.1.scheduleTest then r.1.orderSchedule
  else
    let s2 := r.1.dropSchedule
    if s2.scheduleWant then s2.orderSchedule else s2.arbitrateFive.1

end Sys2Proof.Machine
end

