-- ==== Sys2Proof/Machine/Application.lean ====
section
/-! DEFINITION. Commit validation, and the application of a pending commit (Section 9). -/

namespace Sys2Proof.Machine

/-! ### Validation (R159) -/

/-- The node of an address byte is one and is enabled in these tables. -/
def TableSet.nodeEnabled (t : TableSet) (node : Byte) : Bool :=
  isNodeAddr node && (bankGet t.nodes NodeConfig.cleared node.toNat).enabled

/-- Main entry i passes validation (R159). -/
def TableSet.mainEntryOk (t : TableSet) (i : Nat) : Bool :=
  let e := t.main[i]?.getD MainEntry.cleared
  t.nodeEnabled e.node && 1 ≤ e.divisor.toNat && e.divisor.toNat ≤ 16 && e.phase.toNat < e.divisor.toNat

/-- The node byte of interleave entry i. -/
def TableSet.ilEntry (t : TableSet) (i : Nat) : Byte := t.interleave[i]?.getD 0

/-- Interleave entry i passes validation (R159). -/
def TableSet.ilEntryOk (t : TableSet) (i : Nat) : Bool :=
  t.nodeEnabled (t.ilEntry i) && (List.range i).all fun j => t.ilEntry j != t.ilEntry i

/-- The lengths pass validation (R159). -/
def TableSet.lengthsOk (t : TableSet) : Bool :=
  t.mainLen ≤ 64 && t.ilLen ≤ 4 && (t.ilLen = 0 || 0 < t.mainLen)

/-- The first check of R159 that fails: its reason code and the index of the entry. -/
def TableSet.invalid (t : TableSet) : Option (Byte × Byte) :=
  if !t.lengthsOk then some (1, 0)
  else
    match (List.range t.mainLen).find? fun i => !t.mainEntryOk i with
    | some i => some (2, natByte i)
    | none =>
      match (List.range t.ilLen).find? fun i => !t.ilEntryOk i with
      | some i => some (3, natByte i)
      | none => none

/-! ### Application (R161 to R163) -/

/-- The table store's part (R162). -/
def TableStore.applied (t : TableStore) : TableStore :=
  { t with active := t.shadow, commitPending := false, generation := t.generation + 1 }

/-- A node's two lengths are the same in two records. -/
def NodeConfig.sameLengths (old new : NodeConfig) : Bool :=
  old.inputLen == new.inputLen && old.outputLen == new.outputLen

/-- A kept node's fail_count in agreement with the new offline_threshold (R55). -/
def NodeRt.align (r : NodeRt) (new : NodeConfig) : NodeRt :=
  let threshold := new.offlineThreshold.toNat
  match r.health with
  | .offline => { r with failCount := threshold }
  | .suspect | .probing => { r with failCount := if threshold ≤ r.failCount then threshold - 1 else r.failCount }
  | .online | .disabled => r

/-- A node's runtime record at an application (R53 to R55). -/
def NodeRt.applied (r : NodeRt) (old new : NodeConfig) : NodeRt :=
  if new.enabled then
    if old.enabled && old.sameLengths new then r.align new
    else { r with health := .probing, failCount := 0, countdown := 0, attention := false }
  else if old.enabled then { r with health := .disabled, failCount := 0, countdown := 0, attention := false }
  else r

/-- An input record invalidated: the update sequence is kept (R77). -/
def Image.invalidate (i : Image) (inLen : Nat) : Image :=
  { i with valid := false, data := List.replicate inLen 0, status := 0, age := 65535 }

/-- An output record unset (R62, R77). -/
def Image.unset (i : Image) (outLen : Nat) : Image :=
  { i with outSet := false, outData := List.replicate outLen 0 }

/-- A node's image records at an application (R77).  The records of a node that is not enabled before and
after stay invalid and unset, with the new lengths. -/
def Image.applied (i : Image) (old new : NodeConfig) : Image :=
  let kept := old.enabled && new.enabled
  let i1 := if kept && old.inputLen == new.inputLen then i else i.invalidate new.inputLen.toNat
  if kept && old.outputLen == new.outputLen then i1 else i1.unset new.outputLen.toNat

/-- What an application completes in the request queue (R97), from the tables before and after; a REFRESH
entry's result carries the input reading (R91), and `s` holds the image records as the image store left
them.  A REFRESH for a node that the commit disables is answered NODE_REMOVED, with R91 and R97, although R72
answers REFRESH_FAILED at a commit application: DESIGN CHOICE (log entry 34). -/
def State.commitVerdict (s : State) (old : TableSet) (e : Entry) : Option (Result × List Byte) :=
  let o := bankGet old.nodes NodeConfig.cleared e.node
  let c := s.cfg e.node
  if o.enabled && !c.enabled then
    some (.nodeRemoved, if e.kind = .refresh then s.reading e.node else [])
  else if o.enabled && c.enabled then
    match e.kind with
    | .exchange => if o.outputLen = c.outputLen then none else some (.nodeChanged, [])
    | .refresh => if o.inputLen = c.inputLen then none else some (.refreshFailed, s.reading e.node)
    | _ => none
  else none

/-- Node n is disabled by an application that had the tables `old` before it. -/
def State.disabledBy (s : State) (old : TableSet) (n : Nat) : Bool :=
  (bankGet old.nodes NodeConfig.cleared n).enabled && !(s.cfg n).enabled

/-- The node of an active transfer is disabled by the application (R116). -/
def State.transferRemoved (s : State) (old : TableSet) : Bool :=
  s.bulk.state.active && s.bulk.node.any (s.disabledBy old)

/-- The bulk unit's part (R116). -/
def State.bulkApplied (s : State) (old : TableSet) : State :=
  let b := s.bulk
  let cancel := b.cancel.filter fun c => !s.disabledBy old c.1
  if s.transferRemoved old then
    s.endTransfer { b with segPhase := b.segPhase.dropRetry, cancel := cancel } (.failed .nodeRemoved)
  else s.withBulk { b with cancel := cancel }

/-- The two offers of an application in either order, and the bulk unit's part (R162, R163; log entry 13). -/
def State.applicationOffers (s : State) (old : TableSet) : State :=
  let notice := Notice.commitApplied s.tables.generation
  if s.transferRemoved old then
    if Config.bulkEndFirst s.choices then (s.countChoice.bulkApplied old).offer notice
    else (s.countChoice.offer notice).bulkApplied old
  else (s.offer notice).bulkApplied old

/-- A silence_limit of 0 stops a running silence timer (R133). -/
def State.silenceApplied (s : State) : State :=
  s.withLink { s.link with silenceTimer := if s.params.silenceLimit = 0 then none else s.link.silenceTimer }

/-- The node table's and the image store's parts of an application (R163). -/
def State.recordsApplied (s : State) (old : TableSet) : State :=
  let oldCfg := bankGet old.nodes NodeConfig.cleared
  (s.withNodes (tabulate fun n => (s.node n).applied (oldCfg n) (s.cfg n))).withImages
    (tabulate fun n => (s.image n).applied (oldCfg n) (s.cfg n))

/-- The application of a pending commit (R162, R163). -/
def State.apply (s : State) : State :=
  let old := s.tables.active
  let s1 := (s.withTables s.tables.applied).recordsApplied old
  let s2 := s1.complete (s1.commitVerdict old)
  let s3 := s2.applicationOffers old
  s3.silenceApplied.scheduleRestart true

end Sys2Proof.Machine
end

