-- ==== Sys2Proof/Machine/Event.lean ====
section
/-! DEFINITION. What every event ends with (the application and the arbitration it makes due, the transmitter's
choice), and the taking of a valid frame. -/

namespace Sys2Proof.Machine

/-! ### What an event makes due is taken in it (R121, R161) -/

/-- One thing that is due is taken.  Where the application and the arbitration are both due, either may be
first (R121, R161; log entry 4). -/
def State.turn (s : State) : State :=
  if s.applicationDue && s.arbitrationDue then
    if Config.applicationFirst s.choices then s.countChoice.apply else s.countChoice.arbitrate
  else if s.applicationDue then s.apply
  else if s.arbitrationDue then s.arbitrate
  else s

/-- All that is due is taken.  Three turns suffice: an arbitration that drops a ready step may walk to a
boundary, which makes a pending application due, and an application is followed by an arbitration (R161,
R163). -/
def State.settle (s : State) : State := s.turn.turn.turn

/-- What follows in the same event: all that is due, and the IDLE transmitter's choice. -/
def State.follow (s : State) : State := s.settle.wake

/-- The end of an event.  An IDLE transmitter takes what the event's own effect left for it first: a
command's reply is handed over before an application that its acceptance completes (R161, R171).  DESIGN CHOICE
(log entry 31): a notice that the event makes ready is taken before what the event makes due, too, an order the
manual leaves open. -/
def State.close (s : State) : State := s.wake.follow

/-- The answer of an event that may have made something due, queued a reply or made a notice ready. -/
def done (s : State) : Out := .next s.close

/-- An answer with the end of its event. -/
def closeOut : Out → Out
  | .next s => .next s.close
  | .fault f => .fault f
  | .refused r => .refused r

/-- ARBITRATION (R122).  It belongs to the event that leaves the line IDLE with a want and is taken there
(R121): by itself the row finds a want only where none has been taken, and with the line not IDLE there is
nothing left of it to do (log entry 4). -/
def execArbitration (s : State) : Out :=
  if s.line.phase.isIdle then .next s.arbitrate.follow else .next s

/-- COMMIT_APPLICATION (R161, R162).  It belongs to the event that completes its conditions and is taken
there: with no commit pending there is nothing left of it to do (log entry 4). -/
def execCommitApplication (s : State) : Out :=
  if s.applicationDue then .next s.apply.follow
  else if s.tables.commitPending then cannot "COMMIT_APPLICATION"
  else .next s

/-! ### Valid frames (R83, R167 to R169, R174) -/

/-- A valid frame arrives (R167): it is counted, slot-checked (R168), discarded while a restart is pending
(R174), dispatched (R169), refused where its tag is outstanding (R83, R84 step 1), and else handed to its
owner.  A frame that arrives while RESET is asserted is lost (R175). -/
def State.takeFrame (s : State) (mnemonic : String) (f : UpFrame) (handle : State → Out) : Out :=
  if s.resetAsserted then .next s
  else if !s.frameFits f then cannot mnemonic
  else
    let s1 := s.frameCounted
    if s1.link.restartPending.isSome || s1.freeSlots == 0 then .next s1.discarded
    else
      match dispatchRefusal (Config.badValueFirst s1.choices) f.addr f.cmd f.payload with
      | some r => done (s1.countChoice.reply f.addr f.cmd f.tag r [])
      | none =>
        if s1.outstanding.contains f.tag then done (s1.reply f.addr f.cmd f.tag .tagInUse [])
        else closeOut (handle s1)

/-- The frame of a command addressed to a node. -/
def nodeFrame (c : Command) (addr tag : Byte) (payload : List Byte) : UpFrame := ⟨addr, c.code, tag, payload⟩

/-- The frame of a command addressed to the concentrator. -/
def partFrame (c : Command) (tag : Byte) (payload : List Byte) : UpFrame := ⟨0, c.code, tag, payload⟩

/-- The request in a frame is answered at once. -/
def State.answer (s : State) (f : UpFrame) (r : Result) (content : List Byte) : State :=
  s.reply f.addr f.cmd f.tag r content

end Sys2Proof.Machine
end

