-- ==== Sys2Proof/Machine/Resets.lean ====
section
/-! DEFINITION. Power-on reset, its release, the warm restart and the timebase tick. -/

namespace Sys2Proof.Machine

/-- POWER_ON_RESET (R164): every block at its power-on values, the straps sampled (R1), RESET asserted.  The
command queue, the tick time and the count of free choices are the model's own and go on. -/
def execPowerOnReset (upStrap downStrap : BitVec 2) (s : State) : Out :=
  .next { State.reset with
    now := s.now
    upStrap := upStrap
    downStrap := downStrap
    choices := s.choices
    pending := s.pending }

/-- RESET_RELEASE (R38, R175): the quiet measure starts, the receiver begins in HUNT, and the transmitter may
take the RESTART notice (R149). -/
def execResetRelease (s : State) : Out :=
  if s.resetAsserted then
    .next (({ s with resetAsserted := false }).withLine { s.line with quietSince := s.now }).wake
  else cannot "RESET_RELEASE"

/-- A node's record after a warm restart (R60). -/
def NodeRt.warm (cfg : NodeConfig) : NodeRt :=
  { NodeRt.reset with health := if cfg.enabled then .probing else .disabled }

/-- The line phase is SENDING. -/
def LinePhase.isSending : LinePhase → Bool
  | .sending _ _ _ => true
  | _ => false

/-- The line controller after a warm restart (R39): in SENDING the character in progress is still
completed. -/
def LineCtl.warm (l : LineCtl) : LineCtl :=
  { LineCtl.reset with
    quietSince := l.quietSince
    charIn := l.charIn
    charForeign := l.charForeign
    cutChar := l.cutChar || l.phase.isSending }

/-- Every block at its warm-restart values (R20, R39, R60, R79, R98, R120, R139, R150, R164, R175). -/
def State.warmRestart (s : State) : State :=
  { s with
    line := s.line.warm
    sched := Sched.reset (decide (s.mainLen = 0))
    nodes := tabulate fun n => NodeRt.warm (s.cfg n)
    images := tabulate fun n => Image.reset (s.cfg n).inputLen.toNat (s.cfg n).outputLen.toNat
    queue := ⟨[], []⟩
    bulk := Bulk.reset
    notices := ⟨none, [.restart .warm], s.notices.sequence, 0, false⟩
    tables := { s.tables with shadow := s.tables.active, commitPending := false }
    link := LinkPort.reset }

/-- The frame being sent is the RESTART_WARM reply (R174). -/
def State.sendingRestartReply (s : State) : Bool :=
  s.link.tx == .sendingReply && s.link.restartPending == some 1

/-- WARM_RESTART_TAKES_EFFECT (R174): the end of the last character of the RESTART_WARM reply. -/
def execWarmRestartTakesEffect (s : State) : Out :=
  if s.sendingRestartReply then .next s.warmRestart.wake else cannot "WARM_RESTART_TAKES_EFFECT"

/-- A node's image record one tick later (R63). -/
def Image.tick (i : Image) : Image := if i.valid then { i with age := satInc i.age } else i

/-- TIMEBASE_TICK (R63): the age of every valid input record increases by 1, stopping at 65535.  A tick
cannot fall before an expiry that must come first (R27, R15; log entry 3). -/
def execTimebaseTick (s : State) : Out :=
  if s.overdue then cannot "TIMEBASE_TICK"
  else .next (({ s with now := s.now + 1 }).withImages (tabulate fun n => (s.image n).tick))

end Sys2Proof.Machine
end

