-- ==== Sys2Proof/Machine/Receiver.lean ====
section
/-! DEFINITION. The upstream receiver's characters, the unknown command, and the end of an upstream frame. -/

namespace Sys2Proof.Machine

/-- The inter-byte limit of the receiver in ticks (R166). -/
def upInterByte : Nat := 50

/-- The receiver's inter-byte timer as started or restarted now. -/
def State.upTimer (s : State) : Option Nat := some (s.now + upInterByte)

/-- The receiver in another state. -/
def State.setRx (s : State) (r : RxPhase) : State := s.withLink { s.link with rx := r }

/-- The link counters changed. -/
def State.countLink (s : State) (f : LinkCounters → LinkCounters) : State :=
  s.withLink { s.link with counters := f s.link.counters }

/-- One hunt byte counted (R166, R173). -/
def countHunt (c : LinkCounters) : LinkCounters := { c with huntBytes := satInc c.huntBytes }

/-- One check error counted (R166, R173). -/
def countCheckError (c : LinkCounters) : LinkCounters := { c with checkErrors := satInc c.checkErrors }

/-- A check error: counted, what is collected discarded, the receiver in HUNT (R166). -/
def State.checkError (s : State) : State := (s.countLink countCheckError).setRx .hunt

/-- LEN is in range (R165, R166). -/
def lenOk (len : Byte) : Bool := 3 ≤ len.toNat && len.toNat ≤ 243

/-- The next byte is the second check byte: LEN, LEN bytes from ADDR on, and check byte A are in (R166). -/
def upLastByte (got : List Byte) : Bool :=
  match got with
  | len :: rest => rest.length == len.toNat + 1
  | [] => false

/-- The collected bytes and the second check byte make a frame whose check pair agrees (R167). -/
def checkAgrees (got : List Byte) (last : Byte) : Bool :=
  let covered := got.dropLast
  got ++ [last] == withCheck covered

/-- HUNT_BYTE (R166): in HUNT, a byte other than 0x5A or a framing fault. -/
def execHuntByte (byte : Byte) (framingFault : Bool) (s : State) : Out :=
  if s.resetAsserted then .next s
  else
    match s.link.rx with
    | .hunt =>
      if byte != upSync || framingFault then .next (s.countLink countHunt) else cannot "HUNT_BYTE"
    | _ => cannot "HUNT_BYTE"

/-- UPSTREAM_BYTE_COLLECTED (R166): 0x5A in HUNT, or a byte collected in HEADER or BODY before the second
check byte. -/
def execUpstreamByteCollected (byte : Byte) (s : State) : Out :=
  if s.resetAsserted then .next s
  else
    match s.link.rx with
    | .hunt =>
      if byte = upSync then .next (s.setRx (.header [] s.upTimer)) else cannot "UPSTREAM_BYTE_COLLECTED"
    | .header got _ =>
      if got.isEmpty && !lenOk byte then cannot "UPSTREAM_BYTE_COLLECTED"
      else if got.length + 1 < 4 then .next (s.setRx (.header (got ++ [byte]) s.upTimer))
      else .next (s.setRx (.body (got ++ [byte]) s.upTimer))
    | .body got _ =>
      if upLastByte got then cannot "UPSTREAM_BYTE_COLLECTED"
      else .next (s.setRx (.body (got ++ [byte]) s.upTimer))

/-- UPSTREAM_CHARACTER_START (R166): the inter-byte timer is stopped. -/
def execUpstreamCharacterStart (s : State) : Out :=
  if s.resetAsserted then .next s
  else
    match s.link.rx with
    | .hunt => .next s
    | .header got _ => .next (s.setRx (.header got none))
    | .body got _ => .next (s.setRx (.body got none))

/-- UPSTREAM_CHECK_ERROR (R166, R167): the arriving character has a framing fault, is a LEN out of range, or
is a second check byte with which the check pair differs. -/
def execUpstreamCheckError (byte : Byte) (framingFault : Bool) (s : State) : Out :=
  if s.resetAsserted then .next s
  else
    match s.link.rx with
    | .hunt => cannot "UPSTREAM_CHECK_ERROR"
    | .header got _ =>
      if framingFault || (got.isEmpty && !lenOk byte) then .next s.checkError
      else cannot "UPSTREAM_CHECK_ERROR"
    | .body got _ =>
      if framingFault || (upLastByte got && !checkAgrees got byte) then .next s.checkError
      else cannot "UPSTREAM_CHECK_ERROR"

/-- UPSTREAM_INTER_BYTE_EXPIRY (R166): the partial frame is a check error. -/
def execUpstreamInterByteExpiry (s : State) : Out :=
  match s.link.rx with
  | .hunt => cannot "UPSTREAM_INTER_BYTE_EXPIRY"
  | .header _ t =>
    if s.dueOpt t then .next s.checkError else cannot "UPSTREAM_INTER_BYTE_EXPIRY"
  | .body _ t =>
    if s.dueOpt t then .next s.checkError else cannot "UPSTREAM_INTER_BYTE_EXPIRY"

/-- FRAME_WITH_UNKNOWN_COMMAND (R169): a valid frame that steps 1 to 3 of the dispatch refuse with
BAD_ADDRESS or BAD_COMMAND.  A frame they do not refuse is another row's. -/
def execFrameWithUnknownCommand (addr cmd tag : Byte) (payload : List Byte) (s : State) : Out :=
  if !s.resetAsserted && (addressRefusal addr cmd).isNone then cannot "FRAME_WITH_UNKNOWN_COMMAND"
  else
    s.takeFrame "FRAME_WITH_UNKNOWN_COMMAND" ⟨addr, cmd, tag, payload⟩ fun _ =>
      cannot "FRAME_WITH_UNKNOWN_COMMAND"

/-- One reply frame counted as sent (R173). -/
def countReplySent (c : LinkCounters) : LinkCounters := { c with repliesSent := satInc c.repliesSent }

/-- One notice frame counted as sent (R173). -/
def countNoticeSent (c : LinkCounters) : LinkCounters := { c with noticesSent := satInc c.noticesSent }

/-- The link port after the end of a reply frame: its slot is free (R171), and one reply fewer is to be sent
before a pending restart (R174). -/
def LinkPort.replySent (l : LinkPort) : LinkPort :=
  { l with
    tx := .idle
    replies := l.replies.drop 1
    restartPending := l.restartPending.map (· - 1)
    counters := countReplySent l.counters }

/-- UPSTREAM_FRAME_SENT (R171): the frame is counted, a reply's slot becomes free, and the transmitter takes
its next frame.  The end of the RESTART_WARM reply is the event in which the warm restart takes effect (R174;
log entry 23). -/
def execUpstreamFrameSent (s : State) : Out :=
  match s.link.tx with
  | .idle => cannot "UPSTREAM_FRAME_SENT"
  | .sendingReply =>
    if s.sendingRestartReply then .next s.warmRestart.wake else .next (s.withLink s.link.replySent).txNext
  | .sendingNotice _ =>
    .next (s.withLink { s.link with tx := .idle, counters := countNoticeSent s.link.counters }).txNext

end Sys2Proof.Machine
end

