-- ==== Sys2Proof/Machine/Queries.lean ====
section
/-! DEFINITION. QUERY_STATUS, QUERY_NODE, READ_COUNTERS and RESTART_WARM. -/

namespace Sys2Proof.Machine

/-- The QUERY_STATUS record (R172, Table 11-3). -/
def State.statusRecord (s : State) : List Byte :=
  [s.sched.runState.code, flagByte s.sched.safe, s.tables.generation, flagByte s.tables.commitPending]
    ++ halfBytes s.sched.cycleNumber ++ halfBytes s.sched.overrun
    ++ [natByte s.queue.urgent.length, natByte s.queue.normal.length, natByte s.outstanding.length,
        s.bulk.state.code, natByte s.notices.depth, s.notices.lost]

/-- QUERY_STATUS (R172). -/
def execQueryStatus (tag : Byte) (payload : List Byte) (s : State) : Out :=
  let f := partFrame .queryStatus tag payload
  s.takeFrame "QUERY_STATUS" f fun s1 => .next (s1.answer f .ok s1.statusRecord)

/-- The QUERY_NODE record of node n (R58, R78, Table 11-3). -/
def State.nodeRecord (s : State) (n : Nat) : List Byte :=
  let r := s.node n
  (s.cfg n).bytes ++ [r.health.code, natByte r.failCount, r.countdown, flagByte r.attention]
    ++ halfBytes r.attempts ++ halfBytes r.failures
    ++ [(s.quality n).code] ++ halfBytes (s.image n).age ++ [(s.image n).sequence, flagByte (s.image n).outSet]

/-- QUERY_NODE (R58). -/
def execQueryNode (addr tag : Byte) (payload : List Byte) (s : State) : Out :=
  let f := nodeFrame .queryNode addr tag payload
  s.takeFrame "QUERY_NODE" f fun s1 => .next (s1.answer f .ok (s1.nodeRecord addr.toNat))

/-- The READ_COUNTERS record (R173, Table 11-4). -/
def State.counterRecord (s : State) : List Byte := s.line.counters.bytes ++ s.link.counters.bytes

/-- Every line counter and every link counter at 0 (R37, R173). -/
def State.clearCounters (s : State) : State :=
  (s.withLine { s.line with counters := LineCounters.zero }).withLink
    { s.link with counters := LinkCounters.zero }

/-- READ_COUNTERS (R173): the values are taken for the reply, then cleared if the clear request is there. -/
def execReadCounters (tag : Byte) (payload : List Byte) (s : State) : Out :=
  let f := partFrame .readCounters tag payload
  s.takeFrame "READ_COUNTERS" f fun s1 =>
    let record := s1.counterRecord
    let s2 := if payload.isEmpty then s1 else s1.clearCounters
    .next (s2.answer f .ok record)

/-- RESTART_WARM (R174): its OK reply is queued and a restart is marked pending. -/
def execRestartWarm (tag : Byte) (payload : List Byte) (s : State) : Out :=
  let f := partFrame .restartWarm tag payload
  s.takeFrame "RESTART_WARM" f fun s1 =>
    let s2 := s1.answer f .ok []
    .next (s2.withLink { s2.link with restartPending := some s2.link.replies.length })

end Sys2Proof.Machine
end

