-- ==== Sys2Proof/Machine/Requests.lean ====
section
/-! DEFINITION. READ_INPUT, WRITE_OUTPUT, EXCHANGE, PASS, PROBE, CANCEL and the deadline's expiry. -/

namespace Sys2Proof.Machine

/-- The node's output record written: data replaced, set (R73, R74). -/
def State.writeOutput (s : State) (n : Nat) (data : List Byte) : State :=
  s.setImage n { s.image n with outSet := true, outData := data }

/-- The fields of a demand request that has passed the dispatch. -/
def demandOf (c : Command) (payload : List Byte) : DemandFields :=
  (c.demandFields payload).getD ⟨0, false, none, none, false, []⟩

/-- The freshness decision and the refresh it may call for (R71, R72, R87). -/
def State.readInput (s : State) (f : UpFrame) : State :=
  let n := f.addr.toNat
  let d := demandOf .readInput f.payload
  if s.health n = .disabled then s.answer f .nodeDisabled []
  else
    match d.maxAge with
    | none => s.answer f .ok (s.reading n)
    | some limit =>
      if s.health n = .offline then s.answer f .staleUnavailable (s.reading n)
      else if (s.image n).valid ∧ (s.image n).age.toNat ≤ limit.toNat then s.answer f .ok (s.reading n)
      else if maxTags ≤ s.outstanding.length then s.answer f .busy []
      else s.takeRefresh n d.urgent (s.tagSlot f.tag d.deadline)

/-- READ_INPUT (R71). -/
def execReadInput (addr tag : Byte) (payload : List Byte) (s : State) : Out :=
  let f := nodeFrame .readInput addr tag payload
  s.takeFrame "READ_INPUT" f fun s1 => .next (s1.readInput f)

/-- WRITE_OUTPUT's checks and its write (R73). -/
def State.takeWrite (s : State) (f : UpFrame) : State :=
  let n := f.addr.toNat
  if s.health n = .disabled then s.answer f .nodeDisabled []
  else if s.health n = .offline then s.answer f .nodeOffline []
  else if (s.cfg n).outputLen = 0 then s.answer f .badValue []
  else if f.payload.length ≠ (s.cfg n).outputLen.toNat then s.answer f .badLength []
  else (s.writeOutput n f.payload).answer f (if s.sched.safe then .held else .accepted) []

/-- WRITE_OUTPUT (R73). -/
def execWriteOutput (addr tag : Byte) (payload : List Byte) (s : State) : Out :=
  let f := nodeFrame .writeOutput addr tag payload
  s.takeFrame "WRITE_OUTPUT" f fun s1 => .next (s1.takeWrite f)

/-- Steps 2 to 6 of R84 for a request that makes an entry of its own.  Step 5 names two conditions and no
order between them; where both fail (SAFE on, transfer to the node SUSPENDED) the answer is SAFE_STATE, the
first that the step lists: DESIGN CHOICE (log entry 35). -/
def State.demandRefusal (s : State) (kind : EntryKind) (n : Nat) (d : DemandFields) : Option Result :=
  let onlineOnly := kind != .probe
  if s.health n = .disabled then some .nodeDisabled
  else if onlineOnly && s.health n = .offline then some .nodeOffline
  else if kind == .exchange && d.hasData && (s.cfg n).outputLen = 0 then some .badValue
  else if kind == .exchange && d.hasData && d.rest.length != (s.cfg n).outputLen.toNat then some .badLength
  else if kind.isPass && s.sched.safe then some .safeState
  else if kind.isPass && s.bulkActiveFor n then some .bulkBusy
  else if maxTags ≤ s.outstanding.length then some .busy
  else none

/-- A demand request is refused, or makes its entry at the tail of its class (R84 to R86). -/
def State.takeDemand (s : State) (f : UpFrame) (kind : EntryKind) (d : DemandFields) : State :=
  match s.demandRefusal kind f.addr.toNat d with
  | some r => s.answer f r []
  | none => s.enqueue (classOf d.urgent) (newEntry kind f.addr.toNat (s.tagSlot f.tag d.deadline))

/-- EXCHANGE (R85): output data of an accepted request is written at once (R74). -/
def execExchange (addr tag : Byte) (payload : List Byte) (s : State) : Out :=
  let f := nodeFrame .exchange addr tag payload
  s.takeFrame "EXCHANGE" f fun s1 =>
    let d := demandOf .exchange payload
    let s2 := s1.takeDemand f .exchange d
    if d.hasData && (s1.demandRefusal .exchange addr.toNat d).isNone then
      .next (s2.writeOutput addr.toNat d.rest)
    else .next s2

/-- PASS (R86). -/
def execPass (addr tag : Byte) (payload : List Byte) (s : State) : Out :=
  let f := nodeFrame .pass addr tag payload
  s.takeFrame "PASS" f fun s1 =>
    let d := demandOf .pass payload
    .next (s1.takeDemand f (.pass d.rest) d)

/-- PROBE (R86). -/
def execProbe (addr tag : Byte) (payload : List Byte) (s : State) : Out :=
  let f := nodeFrame .probe addr tag payload
  s.takeFrame "PROBE" f fun s1 => .next (s1.takeDemand f .probe (demandOf .probe payload))

/-- A queued tag is removed alone from its entry and answered with a result and no content (R93, R94). -/
def State.removeTag (s : State) (e : Entry) (tag : Byte) (r : Result) : State :=
  (s.withQueue (s.queue.dropTag tag)).queueReply (replyFrame (natByte e.node) e.kind.command.code tag r [])

/-- CANCEL's cases (R94): the target's CANCELLED goes before the CANCEL's own OK. -/
def State.takeCancel (s : State) (f : UpFrame) : State :=
  let target := f.payload.headD 0
  match s.entryOf target with
  | none => s.answer f .unknownTag []
  | some e =>
    if e.phase = .queued then (s.removeTag e target .cancelled).answer f .ok []
    else s.answer f .notCancellable []

/-- CANCEL (R94). -/
def execCancel (tag : Byte) (payload : List Byte) (s : State) : Out :=
  let f := partFrame .cancel tag payload
  s.takeFrame "CANCEL" f fun s1 => .next (s1.takeCancel f)

/-- DEADLINE_EXPIRY (R93): a queued tag whose expiry time has come is removed alone and answered EXPIRED. -/
def execDeadlineExpiry (tag : Byte) (s : State) : Out :=
  match s.entryOf tag with
  | none => cannot "DEADLINE_EXPIRY"
  | some e =>
    if e.phase = .queued && e.tags.any (fun t => t.tag == tag && s.dueOpt t.expiry) then
      done (s.removeTag e tag .expired)
    else cannot "DEADLINE_EXPIRY"

end Sys2Proof.Machine
end

