-- ==== Sys2Proof/Machine/Tables.lean ====
section
/-! DEFINITION. Loading, reading and committing the tables. -/

namespace Sys2Proof.Machine

/-- The shadow tables replaced. -/
def State.setShadow (s : State) (t : TableSet) : State := s.withTables { s.tables with shadow := t }

/-- A load command's checks and write (R155): `load` gives the new shadow, or none where a position, count
or field value lies outside its range. -/
def State.takeLoad (s : State) (f : UpFrame) (load : TableSet → Option TableSet) : State :=
  if s.tables.commitPending then s.answer f .commitPending []
  else
    match load s.tables.shadow with
    | none => s.answer f .badValue []
    | some t => (s.setShadow t).answer f .ok []

/-- The shadow after LOAD_LINE (R156). -/
def loadLine (payload : List Byte) (t : TableSet) : Option TableSet :=
  (LineParams.ofBytes payload).map fun p => { t with line := p }

/-- The shadow after LOAD_NODES (R156, R177). -/
def loadNodes (payload : List Byte) (t : TableSet) : Option TableSet :=
  match payload with
  | first :: count :: recs =>
    let a := first.toNat
    let k := count.toNat
    if 1 ≤ a && a ≤ 30 && 1 ≤ k && a + k - 1 ≤ 30 then
      (readRecords NodeConfig.ofBytes 11 k recs).map fun rs =>
        { t with nodes := writeRecords t.nodes (a - 1) rs }
    else none
  | _ => none

/-- The shadow after LOAD_MAIN (R157, R177). -/
def loadMain (payload : List Byte) (t : TableSet) : Option TableSet :=
  match payload with
  | first :: count :: recs =>
    let a := first.toNat
    let k := count.toNat
    if a ≤ 63 && 1 ≤ k && a + k ≤ 64 then
      (readRecords MainEntry.ofBytes 3 k recs).map fun rs => { t with main := writeRecords t.main a rs }
    else none
  | _ => none

/-- The shadow after LOAD_INTERLEAVE (R157, R177). -/
def loadInterleave (payload : List Byte) (t : TableSet) : Option TableSet :=
  match payload with
  | first :: count :: recs =>
    let a := first.toNat
    let k := count.toNat
    if a ≤ 3 && 1 ≤ k && a + k ≤ 4 then
      (readRecords interleaveOfBytes 1 k recs).map fun rs =>
        { t with interleave := writeRecords t.interleave a rs }
    else none
  | _ => none

/-- The shadow after SET_LENGTHS (R157). -/
def setLengths (payload : List Byte) (t : TableSet) : Option TableSet :=
  match payload with
  | [m, i] => if m.toNat ≤ 64 && i.toNat ≤ 4 then some { t with mainLen := m.toNat, ilLen := i.toNat } else none
  | _ => none

/-- LOAD_LINE (R156). -/
def execLoadLine (tag : Byte) (payload : List Byte) (s : State) : Out :=
  let f := partFrame .loadLine tag payload
  s.takeFrame "LOAD_LINE" f fun s1 => .next (s1.takeLoad f (loadLine payload))

/-- LOAD_NODES (R156). -/
def execLoadNodes (tag : Byte) (payload : List Byte) (s : State) : Out :=
  let f := partFrame .loadNodes tag payload
  s.takeFrame "LOAD_NODES" f fun s1 => .next (s1.takeLoad f (loadNodes payload))

/-- LOAD_MAIN (R157). -/
def execLoadMain (tag : Byte) (payload : List Byte) (s : State) : Out :=
  let f := partFrame .loadMain tag payload
  s.takeFrame "LOAD_MAIN" f fun s1 => .next (s1.takeLoad f (loadMain payload))

/-- LOAD_INTERLEAVE (R157). -/
def execLoadInterleave (tag : Byte) (payload : List Byte) (s : State) : Out :=
  let f := partFrame .loadInterleave tag payload
  s.takeFrame "LOAD_INTERLEAVE" f fun s1 => .next (s1.takeLoad f (loadInterleave payload))

/-- SET_LENGTHS (R157). -/
def execSetLengths (tag : Byte) (payload : List Byte) (s : State) : Out :=
  let f := partFrame .setLengths tag payload
  s.takeFrame "SET_LENGTHS" f fun s1 => .next (s1.takeLoad f (setLengths payload))

/-- DISCARD (R158): the shadow becomes a copy of all three active tables. -/
def execDiscard (tag : Byte) (payload : List Byte) (s : State) : Out :=
  let f := partFrame .discard tag payload
  s.takeFrame "DISCARD" f fun s1 => .next (s1.takeLoad f fun _ => some s1.tables.active)

/-! ### READ_TABLE (R158) -/

/-- The content of a READ_TABLE reply, or none where a value is out of range (R158, R177, Table 11-2). -/
def TableStore.readTable (t : TableStore) (copy table first count : Byte) : Option (List Byte) :=
  let a := first.toNat
  let k := count.toNat
  if 1 < copy.toNat then none
  else
    let set := if copy = 0 then t.shadow else t.active
    let lengths := [natByte set.mainLen, natByte set.ilLen]
    if table = 0 then
      some ([copy, table, (Config.lineReadBytes first count).1, (Config.lineReadBytes first count).2]
        ++ set.line.bytes)
    else if table = 1 then
      if 1 ≤ a && a ≤ 30 && 1 ≤ k && a + k - 1 ≤ 30 && k ≤ 21 then
        some ([copy, table, first, count]
          ++ (recordsFrom set.nodes NodeConfig.cleared (a - 1) k).flatMap NodeConfig.bytes)
      else none
    else if table = 2 then
      if a ≤ 63 && 1 ≤ k && a + k ≤ 64 then
        some ([copy, table, first, count] ++ lengths
          ++ (recordsFrom set.main MainEntry.cleared a k).flatMap MainEntry.bytes)
      else none
    else if table = 3 then
      if a ≤ 3 && 1 ≤ k && a + k ≤ 4 then
        some ([copy, table, first, count] ++ lengths ++ recordsFrom set.interleave 0 a k)
      else none
    else none

/-- READ_TABLE's answer (R158). -/
def State.takeReadTable (s : State) (f : UpFrame) : State :=
  match f.payload with
  | [copy, table, first, count] =>
    match s.tables.readTable copy table first count with
    | some content => s.answer f .ok content
    | none => s.answer f .badValue []
  | _ => s.answer f .badLength []

/-- READ_TABLE (R158). -/
def execReadTable (tag : Byte) (payload : List Byte) (s : State) : Out :=
  let f := partFrame .readTable tag payload
  s.takeFrame "READ_TABLE" f fun s1 => .next (s1.takeReadTable f)

/-! ### COMMIT (R159, R161) -/

/-- COMMIT's cases (R159). -/
def State.takeCommit (s : State) (f : UpFrame) : State :=
  if s.tables.commitPending then s.answer f .commitPending []
  else
    match s.tables.shadow.invalid with
    | some (reason, index) => s.answer f .invalidTables [reason, index]
    | none => (s.withTables { s.tables with commitPending := true }).answer f .accepted []

/-- COMMIT (R159). -/
def execCommit (tag : Byte) (payload : List Byte) (s : State) : Out :=
  let f := partFrame .commit tag payload
  s.takeFrame "COMMIT" f fun s1 => .next (s1.takeCommit f)

end Sys2Proof.Machine
end

