-- ==== Sys2Proof/Machine/Run.lean ====
section
/-! DEFINITION. START, STOP, SUSPEND_CYCLE, RESUME_CYCLE, CLEAR_SAFE, the min-period wait and SAFE entry. -/

namespace Sys2Proof.Machine

/-! ### Run states (R129 to R131) -/

/-- The scheduler in another run state. -/
def State.setRun (s : State) (r : RunState) : State := s.withSched { s.sched with runState := r }

/-- START's checks and its walk (R129). -/
def State.takeStart (s : State) (f : UpFrame) : State :=
  if s.sched.runState ≠ .stopped then s.answer f .wrongState []
  else if s.mainLen = 0 then s.answer f .noSchedule []
  else (s.setRun .running).walk.answer f .ok []

/-- START (R129). -/
def execStart (tag : Byte) (payload : List Byte) (s : State) : Out :=
  let f := partFrame .start tag payload
  s.takeFrame "START" f fun s1 => .next (s1.takeStart f)

/-- STOP's check and its schedule restart (R130). -/
def State.takeStop (s : State) (f : UpFrame) : State :=
  if s.sched.runState = .stopped then s.answer f .wrongState []
  else ((s.setRun .stopped).scheduleRestart false).answer f .ok []

/-- STOP (R130). -/
def execStop (tag : Byte) (payload : List Byte) (s : State) : Out :=
  let f := partFrame .stop tag payload
  s.takeFrame "STOP" f fun s1 => .next (s1.takeStop f)

/-- The scheduler suspended (R131): the min-period wait is cancelled, and the suspended mark is set if the
cycle has begun. -/
def Sched.suspend (d : Sched) : Sched :=
  { d with
    runState := .suspended
    minWait := none
    suspendedMark := d.suspendedMark || d.cycleStart.isSome }

/-- SUSPEND_CYCLE's check and its effect (R131). -/
def State.takeSuspend (s : State) (f : UpFrame) : State :=
  if s.sched.runState = .running then (s.withSched s.sched.suspend).answer f .ok []
  else s.answer f .wrongState []

/-- SUSPEND_CYCLE (R131). -/
def execSuspendCycle (tag : Byte) (payload : List Byte) (s : State) : Out :=
  let f := partFrame .suspendCycle tag payload
  s.takeFrame "SUSPEND_CYCLE" f fun s1 => .next (s1.takeSuspend f)

/-- RESUME_CYCLE's check and its walk, taken where neither a ready step nor a retry was kept (R131). -/
def State.takeResume (s : State) (f : UpFrame) : State :=
  if s.sched.runState = .suspended then (s.setRun .running).walk.answer f .ok []
  else s.answer f .wrongState []

/-- RESUME_CYCLE (R131). -/
def execResumeCycle (tag : Byte) (payload : List Byte) (s : State) : Out :=
  let f := partFrame .resumeCycle tag payload
  s.takeFrame "RESUME_CYCLE" f fun s1 => .next (s1.takeResume f)

/-! ### The min-period wait (R15) -/

/-- MIN_PERIOD_WAIT_EXPIRY (R15): the wait is over, and the walk is taken on.  It falls at the expiry time
itself: no tick passes while the wait is due (`State.overdue`, log entry 3). -/
def execMinPeriodWaitExpiry (s : State) : Out :=
  if s.dueOpt s.sched.minWait then done (s.withSched { s.sched with minWait := none }).walk
  else cannot "MIN_PERIOD_WAIT_EXPIRY"

/-! ### The safe condition (R134, R135, R138) -/

/-- CLEAR_SAFE's check and its effect (R138). -/
def State.takeClearSafe (s : State) (f : UpFrame) : State :=
  if s.sched.safe then
    (s.withSched { s.sched with safe := false, safeBroadcast := false }).answer f .ok []
  else s.answer f .wrongState []

/-- CLEAR_SAFE (R138). -/
def execClearSafe (tag : Byte) (payload : List Byte) (s : State) : Out :=
  let f := partFrame .clearSafe tag payload
  s.takeFrame "CLEAR_SAFE" f fun s1 => .next (s1.takeClearSafe f)

/-- The order that SAFE entry withdraws: a PASS or a data segment held in GAP_WAIT (R29). -/
def LinePhase.withdrawn : LinePhase → Option Request
  | .gapWait o _ =>
    match o.request with
    | .pass bytes => some (.pass bytes)
    | .segment index last false data => some (.segment index last false data)
    | _ => none
  | _ => none

/-- The line controller takes SAFE entry (R29): a withdrawn order is discarded and counted. -/
def State.withdraw (s : State) : State :=
  if s.line.phase.withdrawn.isSome then
    (s.setPhase .idle).countLine fun c => { c with withdrawn := satInc c.withdrawn }
  else s

/-- The bulk unit takes the withdrawal of its data segment (R113): the attempts return to their value before
the order.  The segment of a transfer that has ended is withdrawn all the same (log entry 18). -/
def Bulk.segmentWithdrawn (b : Bulk) : Bulk :=
  match b.segPhase with
  | .onLine =>
    { b with attempts := b.attempts - 1, segPhase := if b.attempts - 1 = 0 then .none else .retryPending }
  | .detached => { b with segPhase := .none }
  | _ => b

/-- The bulk unit takes SAFE entry (R113). -/
def Bulk.safeEntered (b : Bulk) : Bulk :=
  match b.state with
  | .running | .waiting _ => { b with state := .suspended .safe }
  | _ => b

/-- A withdrawn order was a PASS. -/
def passWithdrawn : Option Request → Bool
  | some (.pass _) => true
  | _ => false

/-- A withdrawn order was a data segment. -/
def segmentWithdrawn : Option Request → Bool
  | some (.segment _ _ _ _) => true
  | _ => false

/-- SAFE entry (R135). -/
def State.enterSafe (s : State) : State :=
  let w := s.line.phase.withdrawn
  let s1 := (s.withSched { s.sched with safe := true, safeBroadcast := true }).offer .safeEntered
  let s2 := s1.withdraw.complete (safeVerdict (passWithdrawn w))
  s2.withBulk (if segmentWithdrawn w then s2.bulk.segmentWithdrawn.safeEntered else s2.bulk.safeEntered)

/-- SILENCE_TIMER_EXPIRY (R134): the timer is not restarted, and SAFE is entered if the SAFE flag is
clear. -/
def execSilenceTimerExpiry (s : State) : Out :=
  if s.dueOpt s.link.silenceTimer then
    let s1 := s.withLink { s.link with silenceTimer := none }
    done (if s1.sched.safe then s1 else s1.enterSafe)
  else cannot "SILENCE_TIMER_EXPIRY"

end Sys2Proof.Machine
end

