-- ==== Sys2Proof/Machine/BulkCommands.lean ====
section
/-! DEFINITION. The bulk commands and the backoff expiry (Section 6). -/

namespace Sys2Proof.Machine

/-- The number of segments of a declared length: divided by 32, rounded up (R100). -/
def segmentsOf (length : Nat) : Nat := (length + 31) / 32

/-- A segment phase across a new record: DETACHED is kept (R102, R118). -/
def SegPhase.keepDetached : SegPhase → SegPhase
  | .detached => .detached
  | _ => .none

/-! ### Filling (R102, R103) -/

/-- The record of a transfer opened (R102). -/
def Bulk.opened (b : Bulk) (node length : Nat) : Bulk :=
  { Bulk.reset with
    state := .filling
    node := some node
    declared := some length
    segCount := segmentsOf length
    segPhase := b.segPhase.keepDetached
    cancel := b.cancel
    cancelOnLine := b.cancelOnLine }

/-- BULK_OPEN's checks and effect (R102). -/
def State.takeOpen (s : State) (f : UpFrame) (node length : Nat) : State :=
  if s.bulk.state.active then s.answer f .bulkActive []
  else if s.health node = .disabled then s.answer f .nodeDisabled []
  else (s.withBulk (s.bulk.opened node length)).answer f .ok []

/-- The node and length of a BULK_OPEN's payload (Table 11-1). -/
def openFields : List Byte → Nat × Nat
  | [node, hi, lo] => (node.toNat, (half hi lo).toNat)
  | _ => (0, 0)

/-- BULK_OPEN (R102). -/
def execBulkOpen (tag : Byte) (payload : List Byte) (s : State) : Out :=
  let f := partFrame .bulkOpen tag payload
  s.takeFrame "BULK_OPEN" f fun s1 =>
    .next (s1.takeOpen f (openFields payload).1 (openFields payload).2)

/-- The record with data bytes written from an offset upward (R103). -/
def Bulk.filledWith (b : Bulk) (offset : Nat) (data : List Byte) : Bulk :=
  { b with filled := b.filled + data.length, buffer := b.buffer.writeRun offset data }

/-- BULK_DATA's refusals, in the order of R103. -/
def Bulk.dataRefusal (b : Bulk) (offset count : Nat) : Option Result :=
  if b.state ≠ .filling then some .wrongState
  else if offset ≠ b.filled then some .outOfOrder
  else if b.declared.getD 0 < b.filled + count then some .badLength
  else none

/-- BULK_DATA's checks and effect (R103).  A byte beyond the buffer is a fault, in a state no run
reaches. -/
def State.takeData (s : State) (f : UpFrame) (offset : Nat) (data : List Byte) : Out :=
  match s.bulk.dataRefusal offset data.length with
  | some r => .next (s.answer f r [])
  | none =>
    if bufferSize < offset + data.length then .fault .bufferRange
    else .next ((s.withBulk (s.bulk.filledWith offset data)).answer f .ok [])

/-- The offset and data of a BULK_DATA's payload (Table 11-1). -/
def dataFields : List Byte → Nat × List Byte
  | hi :: lo :: data => ((half hi lo).toNat, data)
  | _ => (0, [])

/-- BULK_DATA (R103). -/
def execBulkData (tag : Byte) (payload : List Byte) (s : State) : Out :=
  let f := partFrame .bulkData tag payload
  s.takeFrame "BULK_DATA" f fun s1 => s1.takeData f (dataFields payload).1 (dataFields payload).2

/-! ### Starting (R104) -/

/-- BULK_START's refusals, in the order of R104. -/
def State.startRefusal (s : State) : Option Result :=
  let n := s.bulk.node.getD 0
  if s.bulk.state ≠ .filling then some .wrongState
  else if s.bulk.filled < s.bulk.declared.getD 0 then some .incomplete
  else if s.health n = .disabled then some .nodeDisabled
  else if s.health n = .offline then some .nodeOffline
  else if s.passHeldFor n then some .nodeBusy
  else if s.sched.safe then some .safeState
  else none

/-- The record of a transfer started (R104). -/
def Bulk.started (b : Bulk) : Bulk :=
  { b with state := .running, nextIndex := 0, acked := 0, attempts := 0, busy := 0 }

/-- BULK_START's checks and effect (R104). -/
def State.takeBulkStart (s : State) (f : UpFrame) : State :=
  match s.startRefusal with
  | some r => s.answer f r []
  | none => (s.withBulk s.bulk.started).answer f .accepted []

/-- BULK_START (R104). -/
def execBulkStart (tag : Byte) (payload : List Byte) (s : State) : Out :=
  let f := partFrame .bulkStart tag payload
  s.takeFrame "BULK_START" f fun s1 => .next (s1.takeBulkStart f)

/-! ### Suspend and resume (R111, R112) -/

/-- BULK_SUSPEND's check and effect (R111). -/
def State.takeBulkSuspend (s : State) (f : UpFrame) : State :=
  match s.bulk.state with
  | .running | .waiting _ => (s.withBulk { s.bulk with state := .suspended .user }).answer f .ok []
  | _ => s.answer f .wrongState []

/-- BULK_SUSPEND (R111). -/
def execBulkSuspend (tag : Byte) (payload : List Byte) (s : State) : Out :=
  let f := partFrame .bulkSuspend tag payload
  s.takeFrame "BULK_SUSPEND" f fun s1 => .next (s1.takeBulkSuspend f)

/-- BULK_RESUME's checks and effect (R112). -/
def State.takeBulkResume (s : State) (f : UpFrame) : State :=
  match s.bulk.state with
  | .suspended _ =>
    if s.sched.safe then s.answer f .safeState []
    else (s.withBulk { s.bulk with state := .running }).answer f .ok []
  | _ => s.answer f .wrongState []

/-- BULK_RESUME (R112). -/
def execBulkResume (tag : Byte) (payload : List Byte) (s : State) : Out :=
  let f := partFrame .bulkResume tag payload
  s.takeFrame "BULK_RESUME" f fun s1 => .next (s1.takeBulkResume f)

/-! ### Abort (R114) -/

/-- A segment phase across an abort: an order on the line is DETACHED, a pending retry is dropped. -/
def SegPhase.aborted : SegPhase → SegPhase
  | .onLine => .detached
  | .retryPending => .none
  | p => p

/-- The node must be told to discard what it has received: the first condition of R114. -/
def Bulk.reached (b : Bulk) : Bool :=
  1 ≤ b.acked || b.segPhase == .onLine || b.segPhase == .retryPending

/-- The cancel record after the abort of an active transfer (R114).  A cancel that is pending already stays
where no new one is decided (log entry 30). -/
def State.abortCancel (s : State) : Option (Nat × Nat) :=
  let n := s.bulk.node.getD 0
  if s.bulk.reached && s.health n != .offline then some (n, s.bulk.nextIndex) else s.bulk.cancel

/-- BULK_ABORT's effect by state (R114). -/
def State.takeAbort (s : State) (f : UpFrame) : State :=
  match s.bulk.state with
  | .filling => (s.withBulk { s.bulk with state := .ended .aborted }).answer f .ok []
  | .running | .waiting _ | .suspended _ =>
    (s.endTransfer { s.bulk with segPhase := s.bulk.segPhase.aborted, cancel := s.abortCancel }
      .aborted).answer f .ok []
  | .empty | .ended _ => s.answer f .wrongState []

/-- BULK_ABORT (R114). -/
def execBulkAbort (tag : Byte) (payload : List Byte) (s : State) : Out :=
  let f := partFrame .bulkAbort tag payload
  s.takeFrame "BULK_ABORT" f fun s1 => .next (s1.takeAbort f)

/-! ### Status, clear and the backoff (R109, R118) -/

/-- BULK_STATUS (R118). -/
def execBulkStatus (tag : Byte) (payload : List Byte) (s : State) : Out :=
  let f := partFrame .bulkStatus tag payload
  s.takeFrame "BULK_STATUS" f fun s1 => .next (s1.answer f .ok s1.bulk.bytes)

/-- The record cleared (R118): the cancel record and a segment phase of DETACHED are kept. -/
def Bulk.cleared (b : Bulk) : Bulk :=
  { Bulk.reset with
    segPhase := b.segPhase.keepDetached
    cancel := b.cancel
    cancelOnLine := b.cancelOnLine }

/-- BULK_CLEAR's check and effect (R118). -/
def State.takeClear (s : State) (f : UpFrame) : State :=
  match s.bulk.state with
  | .filling | .ended _ => (s.withBulk s.bulk.cleared).answer f .ok []
  | _ => s.answer f .wrongState []

/-- BULK_CLEAR (R118). -/
def execBulkClear (tag : Byte) (payload : List Byte) (s : State) : Out :=
  let f := partFrame .bulkClear tag payload
  s.takeFrame "BULK_CLEAR" f fun s1 => .next (s1.takeClear f)

/-- BACKOFF_EXPIRY (R109): taken in WAITING, the transfer is RUNNING again. -/
def execBackoffExpiry (s : State) : Out :=
  match s.bulk.state with
  | .waiting t =>
    if s.due t then done (s.withBulk { s.bulk with state := .running }) else cannot "BACKOFF_EXPIRY"
  | _ => cannot "BACKOFF_EXPIRY"

end Sys2Proof.Machine
end

