-- ==== Sys2Proof/Machine/Notices.lean ====
section
/-! DEFINITION. NOTICE_ACK and the resend timer (Section 8). -/

namespace Sys2Proof.Machine

/-- The lost count an OVERFLOW notice carries; another notice carries none (R146). -/
def SentNotice.carriedLost : SentNotice → Byte
  | .overflow lost => lost
  | _ => 0

/-- The notice queue with its notice in flight removed and R146 applied. -/
def NoticeQueue.removed (q : NoticeQueue) (f : InFlight) : NoticeQueue :=
  { q with
    inFlight := none
    waiting := if q.overflowPending then q.waiting ++ [.overflow] else q.waiting
    lost := q.lost - f.content.carriedLost
    overflowPending := false }

/-- NOTICE_ACK's check and effect (R148). -/
def State.takeAck (s : State) (f : UpFrame) (sequence : Byte) : State :=
  match s.notices.inFlight with
  | none => s.answer f .staleAck []
  | some g =>
    if g.sequence = sequence then (s.withNotices (s.notices.removed g)).answer f .ok []
    else s.answer f .staleAck []

/-- NOTICE_ACK (R148). -/
def execNoticeAck (tag : Byte) (payload : List Byte) (s : State) : Out :=
  let f := partFrame .noticeAck tag payload
  s.takeFrame "NOTICE_ACK" f fun s1 => .next (s1.takeAck f (payload.headD 0))

/-- NOTICE_RESEND_TIMER_EXPIRY (R147): the notice in flight becomes ready for a resend. -/
def execNoticeResendTimerExpiry (s : State) : Out :=
  match s.notices.inFlight with
  | none => cannot "NOTICE_RESEND_TIMER_EXPIRY"
  | some g =>
    if s.dueOpt g.resend then
      .next (s.withNotices { s.notices with inFlight := some { g with resend := none } }).wake
    else cannot "NOTICE_RESEND_TIMER_EXPIRY"

end Sys2Proof.Machine
end

