-- ==== Sys2Proof/Machine/LineEvents.lean ====
section
/-! DEFINITION. The line controller's events: its timers, sent characters and received characters (Section 2). -/

namespace Sys2Proof.Machine

/-! ### Sending (R29 to R31) -/

/-- GAP_TIMER_EXPIRY (R29): SENDING begins. -/
def execGapTimerExpiry (s : State) : Out :=
  match s.line.phase with
  | .gapWait o t =>
    if s.dueOpt t then .next (s.beginSending o) else cannot "GAP_TIMER_EXPIRY"
  | _ => cannot "GAP_TIMER_EXPIRY"

/-- A frame counted as sent, and a SAFE frame as a broadcast sent (R37). -/
def countSent (req : Request) (c : LineCounters) : LineCounters :=
  { c with
    framesSent := satInc c.framesSent
    broadcastsSent := if req = .safe then satInc c.broadcastsSent else c.broadcastsSent }

/-- The phase after the last character of an order's frame (R31): the attempt of a SAFE order ends SENT, any
other waits for its reply. -/
def State.sentPhase (s : State) (o : Order) (outputSent : Bool) : LinePhase :=
  if o.request = .safe then .idle
  else .awaiting o outputSent (s.now + (s.cfg o.addr).replyTimeout.toNat)

/-- The gap of an order that waits for the end of a character a warm restart cut a frame after (R39). -/
def State.gapAfterCut (s : State) : LinePhase :=
  match s.line.phase with
  | .gapWait o none => .gapWait o (if s.line.charIn then none else some (s.now + s.downGap))
  | p => p

/-- The state at the end of the last character of an order's frame (R31, R37). -/
def State.frameSent (s : State) (o : Order) (outputSent : Bool) : State :=
  (s.withLine { s.line with
    phase := s.sentPhase o outputSent
    direction := .receive
    quietSince := s.now }).countLine (countSent o.request)

/-- LAST_CHARACTER_SENT (R31): the end of the frame's last character, which for a SAFE frame is a return to
IDLE (R121); or, after a warm restart in SENDING, the end of the character that was being sent (R39; log entry
19). -/
def execLastCharacterSent (s : State) : Out :=
  match s.line.phase with
  | .sending o _ outputSent =>
    if o.request = .safe then done (s.frameSent o outputSent) else .next (s.frameSent o outputSent)
  | _ =>
    if s.line.cutChar then
      .next (s.withLine { s.line with phase := s.gapAfterCut, cutChar := false, quietSince := s.now })
    else cannot "LAST_CHARACTER_SENT"

/-! ### Received characters (R27 to R29, R32 to R34) -/

/-- The phase after the start of a received character: the gap timer and the inter-byte timer are stopped
(R29, R33, R34). -/
def LinePhase.charStarted : LinePhase → LinePhase
  | .gapWait o _ => .gapWait o none
  | .receiving o out got _ => .receiving o out got none
  | .draining o out _ => .draining o out none
  | p => p

/-- DOWNSTREAM_CHARACTER_START (R27): a received character starts; one that starts during SENDING comes from
another sender (R30). -/
def execDownstreamCharacterStart (s : State) : Out :=
  if s.resetAsserted then .next s
  else .next (s.withLine { s.line with phase := s.line.phase.charStarted, charIn := true, charForeign := s.line.phase.isSending })

/-- A stray byte arrives: counted, and the line is quiet from here (R27, R37). -/
def State.stray (s : State) : State := s.charArrived.countLine countStray

/-- The byte that arrives in AWAITING begins the reply: it is the SYNC byte (R32), of a character that did not
start during SENDING (R30; log entry 16). -/
def State.beginsReply (s : State) (byte : Byte) : Bool := byte == downSync && !s.line.charForeign

/-- STRAY_BYTE (R37): any byte in IDLE, GAP_WAIT and SENDING, and in AWAITING any byte that does not begin the
reply: one other than the SYNC byte, or any byte of a character that started during SENDING (R30, R32). -/
def execStrayByte (byte : Byte) (s : State) : Out :=
  if s.resetAsserted then .next s
  else
    match s.line.phase with
    | .idle => .next s.stray
    | .gapWait o _ =>
      .next (s.stray.setPhase (.gapWait o (if s.line.cutChar then none else some (s.now + s.downGap))))
    | .sending _ _ _ => .next s.stray
    | .awaiting _ _ _ => if s.beginsReply byte then cannot "STRAY_BYTE" else .next s.stray
    | .receiving _ _ _ _ => cannot "STRAY_BYTE"
    | .draining _ _ _ => cannot "STRAY_BYTE"

/-- REPLY_SYNC_ARRIVAL (R32): the byte 0xC6 arrives in AWAITING.  DEDUCED (log entry 16): where its character
started during SENDING the byte is counted stray, as R30 says of every such character, and the reply timer runs
on; R32, R37 and Table 2-2 name the arrival in AWAITING without regard to the start. -/
def execReplySyncArrival (s : State) : Out :=
  if s.resetAsserted then .next s
  else
    match s.line.phase with
    | .awaiting o out _ =>
      if s.beginsReply downSync then .next (s.charArrived.setPhase (.receiving o out [] s.downTimer))
      else .next s.stray
    | _ => cannot "REPLY_SYNC_ARRIVAL"

/-- The bytes end with a LEN above the largest: the third byte of a reply (R33). -/
def lenTooLarge (got : List Byte) : Bool :=
  match got with
  | [_, _, len] => downMaxLen < len.toNat
  | _ => false

/-- REPLY_BYTE_COLLECTED (R33, R34): a byte in RECEIVING before the second check byte, or any byte in
DRAINING. -/
def execReplyByteCollected (byte : Byte) (s : State) : Out :=
  if s.resetAsserted then .next s
  else
    match s.line.phase with
    | .receiving o out got _ =>
      if replyLastByte got then cannot "REPLY_BYTE_COLLECTED"
      else if lenTooLarge (got ++ [byte]) then .next (s.charArrived.setPhase (.draining o out s.downTimer))
      else .next (s.charArrived.setPhase (.receiving o out (got ++ [byte]) s.downTimer))
    | .draining o out _ => .next (s.charArrived.setPhase (.draining o out s.downTimer))
    | _ => cannot "REPLY_BYTE_COLLECTED"

/-! ### Ends of an attempt (R32 to R36) -/

/-- REPLY_FRAME_RECEIVED (R35): the second check byte arrives, and the reply is validated. -/
def execReplyFrameReceived (byte : Byte) (s : State) : Out :=
  if s.resetAsserted then .next s
  else
    match s.line.phase with
    | .receiving o out got _ =>
      if replyLastByte got then
        done (s.charArrived.deliver o out (judgeReply (s.cfg o.addr) o (got ++ [byte])))
      else cannot "REPLY_FRAME_RECEIVED"
    | _ => cannot "REPLY_FRAME_RECEIVED"

/-- REPLY_TIMER_EXPIRY (R32): the attempt ends TIMEOUT. -/
def execReplyTimerExpiry (s : State) : Out :=
  match s.line.phase with
  | .awaiting o out t =>
    if s.due t then done (s.deliver o out (.failure .timeout)) else cannot "REPLY_TIMER_EXPIRY"
  | _ => cannot "REPLY_TIMER_EXPIRY"

/-- DOWNSTREAM_INTER_BYTE_EXPIRY (R33, R34): the attempt ends MALFORMED. -/
def execDownstreamInterByteExpiry (s : State) : Out :=
  match s.line.phase with
  | .receiving o out _ t =>
    if s.dueOpt t then done (s.deliver o out (.failure .malformed))
    else cannot "DOWNSTREAM_INTER_BYTE_EXPIRY"
  | .draining o out t =>
    if s.dueOpt t then done (s.deliver o out (.failure .malformed))
    else cannot "DOWNSTREAM_INTER_BYTE_EXPIRY"
  | _ => cannot "DOWNSTREAM_INTER_BYTE_EXPIRY"

end Sys2Proof.Machine
end

