-- ==== Sys2Proof/Machine/Dispatch.lean ====
section
/-! DEFINITION. One arm for each command. -/

namespace Sys2Proof.Machine

def exec (i : Instr) (s : State) : Host.Outcome State Fault Refusal :=
  match i with
  | .powerOnReset upStrap downStrap => Sys2Proof.Machine.execPowerOnReset upStrap downStrap s
  | .huntByte byte framingFault => Sys2Proof.Machine.execHuntByte byte framingFault s
  | .upstreamCheckError byte framingFault => Sys2Proof.Machine.execUpstreamCheckError byte framingFault s
  | .upstreamInterByteExpiry => Sys2Proof.Machine.execUpstreamInterByteExpiry s
  | .frameWithUnknownCommand addr cmd tag payload => Sys2Proof.Machine.execFrameWithUnknownCommand addr cmd tag payload s
  | .readInput addr tag payload => Sys2Proof.Machine.execReadInput addr tag payload s
  | .writeOutput addr tag payload => Sys2Proof.Machine.execWriteOutput addr tag payload s
  | .exchange addr tag payload => Sys2Proof.Machine.execExchange addr tag payload s
  | .pass addr tag payload => Sys2Proof.Machine.execPass addr tag payload s
  | .probe addr tag payload => Sys2Proof.Machine.execProbe addr tag payload s
  | .queryStatus tag payload => Sys2Proof.Machine.execQueryStatus tag payload s
  | .queryNode addr tag payload => Sys2Proof.Machine.execQueryNode addr tag payload s
  | .readCounters tag payload => Sys2Proof.Machine.execReadCounters tag payload s
  | .readTable tag payload => Sys2Proof.Machine.execReadTable tag payload s
  | .loadLine tag payload => Sys2Proof.Machine.execLoadLine tag payload s
  | .loadNodes tag payload => Sys2Proof.Machine.execLoadNodes tag payload s
  | .loadMain tag payload => Sys2Proof.Machine.execLoadMain tag payload s
  | .loadInterleave tag payload => Sys2Proof.Machine.execLoadInterleave tag payload s
  | .setLengths tag payload => Sys2Proof.Machine.execSetLengths tag payload s
  | .commit tag payload => Sys2Proof.Machine.execCommit tag payload s
  | .discard tag payload => Sys2Proof.Machine.execDiscard tag payload s
  | .start tag payload => Sys2Proof.Machine.execStart tag payload s
  | .stop tag payload => Sys2Proof.Machine.execStop tag payload s
  | .suspendCycle tag payload => Sys2Proof.Machine.execSuspendCycle tag payload s
  | .resumeCycle tag payload => Sys2Proof.Machine.execResumeCycle tag payload s
  | .clearSafe tag payload => Sys2Proof.Machine.execClearSafe tag payload s
  | .restartWarm tag payload => Sys2Proof.Machine.execRestartWarm tag payload s
  | .cancel tag payload => Sys2Proof.Machine.execCancel tag payload s
  | .noticeAck tag payload => Sys2Proof.Machine.execNoticeAck tag payload s
  | .bulkOpen tag payload => Sys2Proof.Machine.execBulkOpen tag payload s
  | .bulkData tag payload => Sys2Proof.Machine.execBulkData tag payload s
  | .bulkStart tag payload => Sys2Proof.Machine.execBulkStart tag payload s
  | .bulkSuspend tag payload => Sys2Proof.Machine.execBulkSuspend tag payload s
  | .bulkResume tag payload => Sys2Proof.Machine.execBulkResume tag payload s
  | .bulkAbort tag payload => Sys2Proof.Machine.execBulkAbort tag payload s
  | .bulkStatus tag payload => Sys2Proof.Machine.execBulkStatus tag payload s
  | .bulkClear tag payload => Sys2Proof.Machine.execBulkClear tag payload s
  | .upstreamFrameSent => Sys2Proof.Machine.execUpstreamFrameSent s
  | .warmRestartTakesEffect => Sys2Proof.Machine.execWarmRestartTakesEffect s
  | .noticeResendTimerExpiry => Sys2Proof.Machine.execNoticeResendTimerExpiry s
  | .silenceTimerExpiry => Sys2Proof.Machine.execSilenceTimerExpiry s
  | .minPeriodWaitExpiry => Sys2Proof.Machine.execMinPeriodWaitExpiry s
  | .deadlineExpiry tag => Sys2Proof.Machine.execDeadlineExpiry tag s
  | .backoffExpiry => Sys2Proof.Machine.execBackoffExpiry s
  | .arbitration => Sys2Proof.Machine.execArbitration s
  | .gapTimerExpiry => Sys2Proof.Machine.execGapTimerExpiry s
  | .lastCharacterSent => Sys2Proof.Machine.execLastCharacterSent s
  | .strayByte byte => Sys2Proof.Machine.execStrayByte byte s
  | .replySyncArrival => Sys2Proof.Machine.execReplySyncArrival s
  | .replyFrameReceived byte => Sys2Proof.Machine.execReplyFrameReceived byte s
  | .replyTimerExpiry => Sys2Proof.Machine.execReplyTimerExpiry s
  | .downstreamInterByteExpiry => Sys2Proof.Machine.execDownstreamInterByteExpiry s
  | .commitApplication => Sys2Proof.Machine.execCommitApplication s
  | .timebaseTick => Sys2Proof.Machine.execTimebaseTick s
  | .replyByteCollected byte => Sys2Proof.Machine.execReplyByteCollected byte s
  | .downstreamCharacterStart => Sys2Proof.Machine.execDownstreamCharacterStart s
  | .upstreamByteCollected byte => Sys2Proof.Machine.execUpstreamByteCollected byte s
  | .upstreamCharacterStart => Sys2Proof.Machine.execUpstreamCharacterStart s
  | .resetRelease => Sys2Proof.Machine.execResetRelease s

end Sys2Proof.Machine
end

