-- ==== Sys2Proof/Safety.lean ====
section
/-! DEFINITION. What a sound state is: the laws the manual states of every state, and the terms claims use. -/

namespace Sys2Proof

/-- The upstream frame a frame row stands for; FRAME_WITH_UNKNOWN_COMMAND is left out, because its frame is
no command's. -/
def Instr.upFrame : Instr → Option Machine.UpFrame
  | .readInput addr tag payload => some ⟨addr, 0x10, tag, payload⟩
  | .writeOutput addr tag payload => some ⟨addr, 0x11, tag, payload⟩
  | .exchange addr tag payload => some ⟨addr, 0x12, tag, payload⟩
  | .pass addr tag payload => some ⟨addr, 0x13, tag, payload⟩
  | .probe addr tag payload => some ⟨addr, 0x14, tag, payload⟩
  | .queryStatus tag payload => some ⟨0, 0x20, tag, payload⟩
  | .queryNode addr tag payload => some ⟨addr, 0x21, tag, payload⟩
  | .readCounters tag payload => some ⟨0, 0x22, tag, payload⟩
  | .readTable tag payload => some ⟨0, 0x23, tag, payload⟩
  | .loadLine tag payload => some ⟨0, 0x30, tag, payload⟩
  | .loadNodes tag payload => some ⟨0, 0x31, tag, payload⟩
  | .loadMain tag payload => some ⟨0, 0x32, tag, payload⟩
  | .loadInterleave tag payload => some ⟨0, 0x33, tag, payload⟩
  | .setLengths tag payload => some ⟨0, 0x34, tag, payload⟩
  | .commit tag payload => some ⟨0, 0x35, tag, payload⟩
  | .discard tag payload => some ⟨0, 0x36, tag, payload⟩
  | .start tag payload => some ⟨0, 0x40, tag, payload⟩
  | .stop tag payload => some ⟨0, 0x41, tag, payload⟩
  | .suspendCycle tag payload => some ⟨0, 0x42, tag, payload⟩
  | .resumeCycle tag payload => some ⟨0, 0x43, tag, payload⟩
  | .clearSafe tag payload => some ⟨0, 0x44, tag, payload⟩
  | .restartWarm tag payload => some ⟨0, 0x45, tag, payload⟩
  | .cancel tag payload => some ⟨0, 0x46, tag, payload⟩
  | .noticeAck tag payload => some ⟨0, 0x47, tag, payload⟩
  | .bulkOpen tag payload => some ⟨0, 0x50, tag, payload⟩
  | .bulkData tag payload => some ⟨0, 0x51, tag, payload⟩
  | .bulkStart tag payload => some ⟨0, 0x52, tag, payload⟩
  | .bulkSuspend tag payload => some ⟨0, 0x53, tag, payload⟩
  | .bulkResume tag payload => some ⟨0, 0x54, tag, payload⟩
  | .bulkAbort tag payload => some ⟨0, 0x55, tag, payload⟩
  | .bulkStatus tag payload => some ⟨0, 0x56, tag, payload⟩
  | .bulkClear tag payload => some ⟨0, 0x57, tag, payload⟩
  | .powerOnReset _ _ | .huntByte _ _ | .upstreamCheckError _ _ | .upstreamInterByteExpiry
  | .frameWithUnknownCommand _ _ _ _ | .upstreamFrameSent | .warmRestartTakesEffect
  | .noticeResendTimerExpiry | .silenceTimerExpiry | .minPeriodWaitExpiry | .deadlineExpiry _
  | .backoffExpiry | .arbitration | .gapTimerExpiry | .lastCharacterSent | .strayByte _
  | .replySyncArrival | .replyFrameReceived _ | .replyTimerExpiry | .downstreamInterByteExpiry
  | .commitApplication | .timebaseTick | .replyByteCollected _ | .downstreamCharacterStart
  | .upstreamByteCollected _ | .upstreamCharacterStart | .resetRelease => none

namespace Machine

/-! ### When a frame is taken, and what an immediate reply leaves -/

/-- RESET is released, the receiver completes the frame, no restart is pending and a reply slot is free: the
frame reaches the dispatch (R167, R168, R174). -/
def State.dispatches (s : State) (f : UpFrame) : Bool :=
  !s.resetAsserted && s.frameFits f && s.link.restartPending.isNone && s.freeSlots != 0

/-- The frame passes the dispatch and the tag check and is handed to the block that owns it (R83, R169). -/
def State.accepts (s : State) (f : UpFrame) : Bool :=
  s.dispatches f && (dispatchRefusal true f.addr f.cmd f.payload).isNone && !s.outstanding.contains f.tag

/-- The transmitter is settled: while it is IDLE, and RESET released, there is nothing to send and the reply
run counter is 0 (R171). -/
def State.txSettled (s : State) : Bool :=
  s.link.tx != .idle || s.resetAsserted
    || (!s.noticeTakable && s.link.replies.isEmpty && s.link.replyRun == 0)

/-- The state once a valid frame is counted: the receiver in HUNT, supervision armed and its timer restarted
(R133, R167). -/
def State.heard (s : State) : State :=
  { s with link := { s.link with
      rx := .hunt
      counters := { s.link.counters with validFrames := satInc s.link.counters.validFrames }
      armed := true
      silenceTimer :=
        if s.tables.active.line.silenceLimit = 0 then s.link.silenceTimer
        else some (s.now + s.tables.active.line.silenceLimit.toNat) } }

/-- The state once a valid frame is counted and its request answered: the reply at the tail of the reply
queue, and an IDLE transmitter taking it (R170, R171). -/
def State.answered (s : State) (f : UpFrame) (r : Result) (content : List Byte) : State :=
  { s.heard with link := { s.heard.link with
      replies := s.link.replies ++ [⟨f.addr ||| 0x80, f.cmd ||| 0x80, f.tag, r.code :: content⟩]
      tx := if s.link.tx = .idle then .sendingReply else s.link.tx
      replyRun := if s.link.tx = .idle then min 4 (s.link.replyRun + 1) else s.link.replyRun } }

/-! ### The transfer buffer and the filled count (R100) -/

/-- The buffer is in canonical form, and the filled count never exceeds the declared length, which never
exceeds 512. -/
def Bulk.sound (b : Bulk) : Bool :=
  b.buffer.wf &&
    match b.declared with
    | none => b.filled == 0
    | some n => b.filled ≤ n && n ≤ bufferSize

/-! ### The line direction (R30, R31, Table 2-1) -/

/-- The line direction output is transmit exactly in SENDING. -/
def LineCtl.sound (l : LineCtl) : Bool := (l.direction == .transmit) == l.phase.isSending

/-! ### The notice queue (R142 to R144) -/

/-- What a waiting notice of a coalescing kind, or an OVERFLOW, stands for: its kind and node. -/
def Notice.key : Notice → Option (Nat × Nat)
  | .change n _ => some (2, n)
  | .health n _ => some (3, n)
  | .attention n => some (4, n)
  | .cycleOverrun => some (7, 0)
  | .overflow => some (9, 0)
  | .restart _ | .bulkEnd _ _ _ | .commitApplied _ | .safeEntered => none

/-- At most 24 notices; among the waiting ones at most one of each per-node kind per node, one OVERFLOW and
one CYCLE_OVERRUN; the overflow-pending flag only while the queue is full and no OVERFLOW waits. -/
def NoticeQueue.sound (q : NoticeQueue) : Bool :=
  decide (q.depth ≤ 24) && decide ((q.waiting.filterMap Notice.key).Nodup)
    && (!q.overflowPending || (q.depth == 24 && !q.waiting.contains .overflow))

/-! ### The request queue and the reply slots (R82, R83, R87, R168) -/

/-- All entries behind the head of a class are queued. -/
def tailQueued (l : List Entry) : Bool := (l.drop 1).all fun e => e.phase == .queued

/-- No tag is outstanding twice, at most 8 are; an entry holds a tag; only the head of a class is in flight;
at most one queued REFRESH entry for a node; queued reply frames and outstanding tags fit the 16 slots. -/
def State.queueSound (s : State) : Bool :=
  decide s.outstanding.Nodup && decide (s.outstanding.length ≤ 8)
    && s.queue.entries.all (fun e => !e.tags.isEmpty)
    && tailQueued s.queue.urgent && tailQueued s.queue.normal
    && decide ((s.queue.entries.filter fun e => e.kind == .refresh && e.phase == .queued).Pairwise
        fun a b => a.node ≠ b.node)
    && decide (s.link.replies.length + s.outstanding.length ≤ 16)

/-! ### The safe condition (R136, R137) -/

/-- The safe-broadcast request stands only while SAFE is on; while SAFE is on no transfer is RUNNING or
WAITING, no PASS entry is queued or awaits a retry, and the line controller holds no PASS and no data segment
in GAP_WAIT. -/
def State.safeLaw (s : State) : Bool :=
  (!s.sched.safeBroadcast || s.sched.safe) &&
    (!s.sched.safe ||
      ((match s.bulk.state with
        | .running | .waiting _ => false
        | _ => true)
        && s.queue.entries.all (fun e => !e.kind.isPass || e.phase == .onLine)
        && s.line.phase.withdrawn.isNone))

/-! ### The lock on PASS (R119) -/

/-- While a transfer to a node is active, the request queue holds no PASS entry for that node. -/
def State.passLock (s : State) : Bool :=
  match s.bulk.node with
  | some n => !s.bulk.state.active || !s.passHeldFor n
  | none => true

/-! ### The tables (R155, R162) -/

/-- The active tables pass every commit validation check, and so does the shadow while a commit is
pending. -/
def TableStore.sound (t : TableStore) : Bool :=
  t.active.invalid.isNone && (!t.commitPending || t.shadow.invalid.isNone)

/-! ### Node and image records (R42, R45, R55, R61 to R63) -/

/-- A node is DISABLED exactly when its configuration is not enabled; its fail_count is 0 in DISABLED and
ONLINE, below offline_threshold in PROBING and SUSPECT, and at it in OFFLINE. -/
def NodeRt.sound (r : NodeRt) (cfg : NodeConfig) : Bool :=
  ((r.health == .disabled) == !cfg.enabled) &&
    match r.health with
    | .disabled | .online => r.failCount == 0
    | .probing | .suspect => decide (r.failCount < cfg.offlineThreshold.toNat)
    | .offline => r.failCount == cfg.offlineThreshold.toNat

/-- The input data has input_len bytes and the output data output_len; the age of an invalid record stands at
65535 and its status byte at 0. -/
def Image.sound (i : Image) (cfg : NodeConfig) : Bool :=
  i.data.length == cfg.inputLen.toNat && i.outData.length == cfg.outputLen.toNat
    && (i.valid || (i.age == 65535 && i.status == 0))

/-- Every node's records agree with its configuration, and every offline_threshold of either copy is at
least 1. -/
def State.recordsSound (s : State) : Bool :=
  nodeAddrs.all fun n =>
    (s.node n).sound (s.cfg n) && (s.image n).sound (s.cfg n)
      && decide (1 ≤ (s.cfg n).offlineThreshold.toNat)
      && decide (1 ≤ (bankGet s.tables.shadow.nodes NodeConfig.cleared n).offlineThreshold.toNat)

end Machine

end Sys2Proof
end

