-- ==== Sys2Proof/Certificates/Slice0/Obligations.lean ====
section
/-! DEFINITION. The statements for the provers, each a closed proposition about the machine. -/

open Sys2Proof Sys2Proof.Machine

/-! ### The queue of commands and the resets -/

/-- A step with a command at the front of the queue runs exactly that command, with the queue's rest (the queue
is the model's own, log entry 6). -/
def Obligations.StepRunsTheFrontCommand : Prop :=
  ∀ (c : Instr) (rest : List Instr) (s : State),
    step { s with pending := c :: rest } = exec c { s with pending := rest }

/-- POWER_ON_RESET completes from every state and leaves the power-on values of R20, R38, R59, R79, R98, R120,
R139, R149, R152 to R154, R164 and R175, with the straps it samples. The tick time, the count of free choices
and the queue of commands are the model's own and go on (log entries 9 and 10). RESET_RELEASE completes while
RESET is asserted: the quiet measure starts (R38), and with the notice queue, reply queue and transmitter as
power-on reset leaves them the RESTART notice goes out with sequence 0, its resend timer started (R147, R149,
R171); nothing else changes. -/
def Obligations.PowerOnResetAndItsRelease : Prop :=
  (∀ (up down : BitVec 2) (s : State),
      let tables : TableSet :=
        { line := ⟨5, 4, 2, 4, 1000, 0, 0, 500⟩
          nodes := Vector.replicate 30 ⟨false, 0, 0, 50, 1, 3, 8, 5000, .none⟩
          mainLen := 0
          ilLen := 0
          main := Vector.replicate 64 ⟨0, 1, 0⟩
          interleave := Vector.replicate 4 0 }
      exec (.powerOnReset up down) s = .next
        { now := s.now
          resetAsserted := true
          upStrap := up
          downStrap := down
          line := ⟨.idle, .receive, 0, false, false, false, ⟨0, 0, 0, 0, 0, 0, 0, 0, 0, 0⟩⟩
          sched :=
            { phase := .sweep, sweepAddr := 1, mainIndex := 0, ilPointer := 0, spacing := 0, ready := none
              attached := none, detached := none, cycleNumber := 0, cycleStart := none
              suspendedMark := false, boundaryMark := true, minWait := none, overrun := 0
              runState := .stopped, safe := false, safeBroadcast := false, credit := 0, pace := 0 }
          nodes := Vector.replicate 30 ⟨.disabled, 0, 0, false, 0, 0⟩
          images := Vector.replicate 30 ⟨false, [], 0, 0, 65535, false, []⟩
          queue := ⟨[], []⟩
          bulk := ⟨.empty, none, none, 0, 0, 0, 0, 0, 0, .none, [], none, false⟩
          notices := ⟨none, [.restart .power], 0, 0, false⟩
          tables := ⟨tables, tables, false, 0⟩
          link := ⟨.hunt, [], .idle, 0, none, false, none, ⟨0, 0, 0, 0, 0, 0⟩⟩
          choices := s.choices
          pending := s.pending }) ∧
  (∀ s : State, s.resetAsserted = true → s.link.tx = .idle → s.link.replies = [] →
      s.link.restartPending = none → s.notices = ⟨none, [.restart .power], 0, 0, false⟩ →
      exec .resetRelease s = .next
        { s with
          resetAsserted := false
          line := { s.line with quietSince := s.now }
          notices := ⟨some ⟨.restart .power, 0,
            some (s.now + s.tables.active.line.noticeResend.toNat)⟩, [], 1, 0, false⟩
          link := { s.link with tx := .sendingNotice ⟨0x80, 0xE0, 0, [0x01, 0x00, 0x01]⟩, replyRun := 0 } })

/-- The end of the last character of the RESTART_WARM reply, under either of its rows, leaves the warm-restart
values: tables active and generation kept, every enabled node PROBING, everything else at its reset value, the
line's quiet measure and received character going on, and the RESTART notice WARM taken with the kept sequence
(R20, R39, R60, R79, R98, R120, R139, R150, R164, R174, R175; log entry 23). -/
def Obligations.WarmRestartLeavesTheWarmValues : Prop :=
  ∀ s : State, s.resetAsserted = false → s.link.tx = .sendingReply → s.link.restartPending = some 1 →
    let t : State :=
      { now := s.now
        resetAsserted := false
        upStrap := s.upStrap
        downStrap := s.downStrap
        line :=
          { phase := .idle, direction := .receive, quietSince := s.line.quietSince, charIn := s.line.charIn
            charForeign := s.line.charForeign
            cutChar := s.line.cutChar || (match s.line.phase with | .sending _ _ _ => true | _ => false)
            counters := ⟨0, 0, 0, 0, 0, 0, 0, 0, 0, 0⟩ }
        sched :=
          { phase := .sweep, sweepAddr := 1, mainIndex := 0, ilPointer := 0, spacing := 0, ready := none
            attached := none, detached := none, cycleNumber := 0, cycleStart := none
            suspendedMark := false, boundaryMark := decide (s.tables.active.mainLen = 0), minWait := none
            overrun := 0, runState := .stopped, safe := false, safeBroadcast := false, credit := 0, pace := 0 }
        nodes := tabulate fun n =>
          ⟨if (s.cfg n).enabled then .probing else .disabled, 0, 0, false, 0, 0⟩
        images := tabulate fun n =>
          ⟨false, List.replicate (s.cfg n).inputLen.toNat 0, 0, 0, 65535, false,
            List.replicate (s.cfg n).outputLen.toNat 0⟩
        queue := ⟨[], []⟩
        bulk := ⟨.empty, none, none, 0, 0, 0, 0, 0, 0, .none, [], none, false⟩
        notices := ⟨some ⟨.restart .warm, s.notices.sequence,
          some (s.now + s.tables.active.line.noticeResend.toNat)⟩, [], s.notices.sequence + 1, 0, false⟩
        tables := { s.tables with shadow := s.tables.active, commitPending := false }
        link := ⟨.hunt, [], .sendingNotice ⟨0x80, 0xE0, s.notices.sequence, [0x01, 0x00, 0x02]⟩, 0, none, false,
          none, ⟨0, 0, 0, 0, 0, 0⟩⟩
        choices := s.choices
        pending := s.pending }
    exec .warmRestartTakesEffect s = .next t ∧ exec .upstreamFrameSent s = .next t

/-- What an event makes due is taken in the same event. An application is due with a commit pending, the line
IDLE and the run state not RUNNING or the boundary mark set; an arbitration is due with the line IDLE and a want
present. With neither due nothing follows an event but the IDLE transmitter's choice; with one due that one is
taken, and where both are due either is first (log entry 4); after that nothing is due. The two rows by
themselves do nothing where their event has taken them, and an application cannot come before its conditions
hold (log entry 4). An IDLE transmitter takes a queued reply or a ready notice, either of them where both are
there, and what the event's own effect left for it before what is due (log entry 31) (R121, R122, R161, R163,
R171; log entry 12). -/
def Obligations.EventsTakeWhatTheyMakeDue : Prop :=
  ∀ s : State,
    let counted : State := { s with choices := s.choices + 1 }
    (s.applicationDue = true ↔ s.tables.commitPending = true ∧ s.line.phase = .idle ∧
      (s.sched.runState ≠ .running ∨ s.sched.boundaryMark = true)) ∧
    (s.arbitrationDue = true ↔ s.line.phase = .idle ∧
      (s.sched.safeBroadcast = true ∨
        (∃ cls x rest, s.queue.fifo cls = x :: rest ∧ x.phase ≠ .onLine) ∨
        (s.bulk.cancel.isSome = true ∧ s.bulk.segPhase ≠ .onLine ∧ s.bulk.segPhase ≠ .detached ∧
          s.bulk.cancelOnLine = false) ∨
        (s.bulk.state = .running ∧ (s.bulk.segPhase = .none ∨ s.bulk.segPhase = .retryPending) ∧
          s.bulk.nextIndex < s.bulk.segCount) ∨
        (s.sched.runState = .running ∧ s.sched.minWait = none ∧
          ¬ (s.sched.boundaryMark = true ∧ s.tables.commitPending = true) ∧
          (s.sched.ready.isSome = true ∨ ∃ a, s.sched.attached = some a ∧ a.retryPending = true)))) ∧
    (s.decided = true ↔ s.applicationDue = false ∧ s.arbitrationDue = false) ∧
    (s.applicationDue = false → s.arbitrationDue = false → s.follow = s.wake) ∧
    (s.applicationDue = false → s.arbitrationDue = true → exec .arbitration s = .next s.follow) ∧
    (s.applicationDue = true → s.arbitrationDue = false → exec .commitApplication s = .next s.follow) ∧
    (s.applicationDue = true → s.arbitrationDue = true →
      exec .arbitration counted = .next s.follow ∨ exec .commitApplication counted = .next s.follow) ∧
    s.follow.decided = true ∧
    (s.line.phase ≠ .idle → exec .arbitration s = .next s) ∧
    (s.tables.commitPending = false → exec .commitApplication s = .next s) ∧
    (s.tables.commitPending = true → s.applicationDue = false →
      exec .commitApplication s = .refused (.cannotOccur "COMMIT_APPLICATION")) ∧
    s.close = s.wake.follow ∧
    (s.link.tx ≠ .idle ∨ s.resetAsserted = true ∨ s.txSettled = true → s.wake = s) ∧
    (s.link.tx = .idle → s.resetAsserted = false → s.link.replies ≠ [] →
      let reply (u : State) : State := { u with link := { u.link with
        tx := .sendingReply, replyRun := min 4 (u.link.replyRun + 1) } }
      (s.noticeTakable = false → s.wake = reply s) ∧
      (s.noticeTakable = true → s.wake = reply counted ∨ s.wake = counted.takeNotice)) ∧
    (s.link.tx = .idle → s.resetAsserted = false → s.link.replies = [] → s.noticeTakable = true →
      s.wake = s.takeNotice) ∧
    (∀ w rest, s.notices.inFlight = none → s.notices.waiting = w :: rest →
      let g : InFlight := ⟨s.fixNotice w, s.notices.sequence,
        some (s.now + s.tables.active.line.noticeResend.toNat)⟩
      s.takeNotice = { s with
        notices := { s.notices with inFlight := some g, waiting := rest, sequence := s.notices.sequence + 1 }
        link := { s.link with
          tx := .sendingNotice ⟨0x80, 0xE0, g.sequence, g.content.payload⟩, replyRun := 0 } })

/-! ### The receiver -/

/-- With RESET released: a byte other than 0x5A, or a framing fault, in HUNT is counted as a hunt byte; 0x5A in
HUNT begins a frame; a byte in HEADER or BODY before the second check byte is collected, the inter-byte timer
restarted; the start of a character stops that timer. Nothing else changes (R166). -/
def Obligations.ReceiverHuntsAndCollects : Prop :=
  ∀ (s : State) (byte : Byte) (fault : Bool) (got : List Byte) (timer : Option Nat),
    s.resetAsserted = false →
    let restarted : Option Nat := some (s.now + 50)
    (s.link.rx = .hunt → byte ≠ 0x5A ∨ fault = true →
      exec (.huntByte byte fault) s = .next { s with link := { s.link with
        counters := { s.link.counters with huntBytes := satInc s.link.counters.huntBytes } } }) ∧
    (s.link.rx = .hunt →
      exec (.upstreamByteCollected 0x5A) s = .next { s with link := { s.link with rx := .header [] restarted } }) ∧
    (s.link.rx = .header got timer → got = [] → 3 ≤ byte.toNat → byte.toNat ≤ 243 →
      exec (.upstreamByteCollected byte) s =
        .next { s with link := { s.link with rx := .header [byte] restarted } }) ∧
    (s.link.rx = .header got timer → 1 ≤ got.length → got.length ≤ 2 →
      exec (.upstreamByteCollected byte) s =
        .next { s with link := { s.link with rx := .header (got ++ [byte]) restarted } }) ∧
    (s.link.rx = .header got timer → got.length = 3 →
      exec (.upstreamByteCollected byte) s =
        .next { s with link := { s.link with rx := .body (got ++ [byte]) restarted } }) ∧
    (∀ len rest, s.link.rx = .body (len :: rest) timer → rest.length ≤ len.toNat →
      exec (.upstreamByteCollected byte) s =
        .next { s with link := { s.link with rx := .body (len :: rest ++ [byte]) restarted } }) ∧
    (s.link.rx = .hunt → exec .upstreamCharacterStart s = .next s) ∧
    (s.link.rx = .header got timer →
      exec .upstreamCharacterStart s = .next { s with link := { s.link with rx := .header got none } }) ∧
    (s.link.rx = .body got timer →
      exec .upstreamCharacterStart s = .next { s with link := { s.link with rx := .body got none } })

/-- A LEN outside 3 to 243, a framing fault in HEADER or BODY, a second check byte with which the check pair
differs, and the expiry of the inter-byte timer each count one check error and bring the receiver to HUNT;
nothing else changes (R166, R167). -/
def Obligations.BrokenUpstreamFramesAreCheckErrors : Prop :=
  ∀ (s : State) (byte a len : Byte) (rest got : List Byte) (timer : Option Nat) (t : Nat),
    let after : State := { s with link := { s.link with
      rx := .hunt
      counters := { s.link.counters with checkErrors := satInc s.link.counters.checkErrors } } }
    (s.resetAsserted = false → s.link.rx = .header [] timer → byte.toNat < 3 ∨ 243 < byte.toNat →
      exec (.upstreamCheckError byte false) s = .next after) ∧
    (s.resetAsserted = false → s.link.rx = .header got timer ∨ s.link.rx = .body got timer →
      exec (.upstreamCheckError byte true) s = .next after) ∧
    (s.resetAsserted = false → s.link.rx = .body (len :: rest ++ [a]) timer → rest.length = len.toNat →
      [a, byte] ≠ [(checkPair (len :: rest)).1, (checkPair (len :: rest)).2] →
      exec (.upstreamCheckError byte false) s = .next after) ∧
    (s.link.rx = .header got (some t) ∨ s.link.rx = .body got (some t) → t ≤ s.now →
      exec .upstreamInterByteExpiry s = .next after)

/-- Every frame row, FRAME_WITH_UNKNOWN_COMMAND among them: a frame that arrives with no free slot or with a
restart pending is counted, arms and restarts silence supervision, and is discarded; a frame the dispatch
refuses is answered with the refusal; and a frame whose tag is outstanding is answered TAG_IN_USE. Steps 1 to 3
of the dispatch answer BAD_ADDRESS above 30, BAD_COMMAND for an unknown code, and BAD_ADDRESS for an address
that does not suit its command. Nothing else changes but, at a dispatch refusal, the count of free choices, the
model's own (R83, R133, R167, R168, R169, R174). -/
def Obligations.FramesAreDiscardedOrRefused : Prop :=
  (∀ (c : Instr) (f : UpFrame) (s : State),
      c.upFrame = some f ∨ (c = .frameWithUnknownCommand f.addr f.cmd f.tag f.payload ∧
        (addressRefusal f.addr f.cmd).isSome = true) →
      (s.resetAsserted = false → s.frameFits f = true →
        s.link.restartPending.isSome = true ∨ s.freeSlots = 0 →
        exec c s = .next { s.heard with link := { s.heard.link with
          counters := { s.heard.link.counters with discards := satInc s.heard.link.counters.discards } } }) ∧
      (∀ r, s.dispatches f = true → s.txSettled = true → s.decided = true →
        dispatchRefusal (Config.badValueFirst s.choices) f.addr f.cmd f.payload = some r →
        exec c s = .next { s.answered f r [] with choices := s.choices + 1 }) ∧
      (s.dispatches f = true → s.txSettled = true → s.decided = true →
        dispatchRefusal true f.addr f.cmd f.payload = none →
        f.tag ∈ s.outstanding → exec c s = .next (s.answered f .tagInUse []))) ∧
  (∀ (s : State) (addr cmd tag : Byte) (payload : List Byte),
      let f : UpFrame := ⟨addr, cmd, tag, payload⟩
      let refused (r : Result) : State := { s.answered f r [] with choices := s.choices + 1 }
      s.dispatches f = true → s.txSettled = true → s.decided = true →
      (30 < addr.toNat → exec (.frameWithUnknownCommand addr cmd tag payload) s = .next (refused .badAddress)) ∧
      (addr.toNat ≤ 30 → Command.ofCode cmd = none →
        exec (.frameWithUnknownCommand addr cmd tag payload) s = .next (refused .badCommand)) ∧
      (∀ c, addr.toNat ≤ 30 → Command.ofCode cmd = some c → c.nodeAddressed ≠ isNodeAddr addr →
        exec (.frameWithUnknownCommand addr cmd tag payload) s = .next (refused .badAddress)))

/-- Steps 4 and 5 of the dispatch for a frame whose address suits its command (R169, R176, R177). Step 4: a
payload of a size its layout does not allow is BAD_LENGTH, for a demand request the size its options byte calls
for. Step 5: an option bit the command does not allow is BAD_VALUE; then a deadline of 0 is BAD_VALUE and a PASS
or output byte count out of range BAD_LENGTH, either of them where both are wrong (the model's free choice, log
entry 14); READ_COUNTERS' byte, BULK_OPEN's node and length and BULK_DATA's offset out of range are BAD_VALUE.
Every other frame is not refused here: the table commands' fields and counts are the table store's. -/
def Obligations.PayloadsAreCheckedInOrder : Prop :=
  (∀ (first : Bool) (addr o : Byte) (bytes : List Byte), 1 ≤ addr.toNat → addr.toNat ≤ 30 →
      let at_ (cmd : Byte) : Option Result := dispatchRefusal first addr cmd (o :: bytes)
      let age : Nat := if o.getLsbD 2 then 2 else 0
      let deadline : Nat := if o.getLsbD 1 then 2 else 0
      let zeroAt (i : Nat) : Bool := o.getLsbD 1 && bytes.getD i 0 == 0 && bytes.getD (i + 1) 0 == 0
      let n := bytes.length - deadline
      (at_ 0x10 = if bytes.length ≠ age + deadline then some .badLength
        else if o &&& 0xF8 ≠ 0 ∨ zeroAt age = true then some .badValue else none) ∧
      (at_ 0x14 = if bytes.length ≠ deadline then some .badLength
        else if o &&& 0xFC ≠ 0 ∨ zeroAt 0 = true then some .badValue else none) ∧
      (bytes.length < deadline ∨ (o.getLsbD 3 = false ∧ n ≠ 0) → at_ 0x12 = some .badLength) ∧
      (deadline ≤ bytes.length → (o.getLsbD 3 = false → n = 0) →
        let bad : Prop := o.getLsbD 3 = true ∧ (n = 0 ∨ 16 < n)
        (o &&& 0xF4 ≠ 0 → at_ 0x12 = some .badValue) ∧
        (o &&& 0xF4 = 0 → zeroAt 0 = true → ¬ bad → at_ 0x12 = some .badValue) ∧
        (o &&& 0xF4 = 0 → zeroAt 0 = false → bad → at_ 0x12 = some .badLength) ∧
        (o &&& 0xF4 = 0 → zeroAt 0 = false → ¬ bad → at_ 0x12 = none) ∧
        (o &&& 0xF4 = 0 → zeroAt 0 = true → bad → at_ 0x12 = some .badValue ∨ at_ 0x12 = some .badLength)) ∧
      (bytes.length < deadline → at_ 0x13 = some .badLength) ∧
      (deadline ≤ bytes.length →
        let bad : Prop := n = 0 ∨ 32 < n
        (o &&& 0xFC ≠ 0 → at_ 0x13 = some .badValue) ∧
        (o &&& 0xFC = 0 → zeroAt 0 = true → ¬ bad → at_ 0x13 = some .badValue) ∧
        (o &&& 0xFC = 0 → zeroAt 0 = false → bad → at_ 0x13 = some .badLength) ∧
        (o &&& 0xFC = 0 → zeroAt 0 = false → ¬ bad → at_ 0x13 = none) ∧
        (o &&& 0xFC = 0 → zeroAt 0 = true → bad → at_ 0x13 = some .badValue ∨ at_ 0x13 = some .badLength))) ∧
  (∀ (first : Bool) (addr : Byte) (payload : List Byte), 1 ≤ addr.toNat → addr.toNat ≤ 30 →
      let k := payload.length
      (∀ cmd ∈ [(0x10 : Byte), 0x12, 0x13, 0x14], dispatchRefusal first addr cmd [] = some .badLength) ∧
      (dispatchRefusal first addr 0x11 payload = if 1 ≤ k ∧ k ≤ 16 then none else some .badLength) ∧
      (dispatchRefusal first addr 0x21 payload = if k = 0 then none else some .badLength)) ∧
  (∀ (first : Bool) (payload : List Byte),
      let k := payload.length
      let at_ (cmd : Byte) : Option Result := dispatchRefusal first 0 cmd payload
      (∀ cmd ∈ [(0x20 : Byte), 0x35, 0x36, 0x40, 0x41, 0x42, 0x43, 0x44, 0x45, 0x52, 0x53, 0x54, 0x55, 0x56, 0x57],
        at_ cmd = if k = 0 then none else some .badLength) ∧
      (∀ x ∈ [((0x23 : Byte), 4), (0x30, 12), (0x34, 2), (0x46, 1), (0x47, 1)],
        at_ x.1 = if k = x.2 then none else some .badLength) ∧
      (∀ x ∈ [((0x31 : Byte), 11), (0x32, 3), (0x33, 1)],
        (k < 2 → at_ x.1 = some .badLength) ∧
        (∀ first_ count records, payload = first_ :: count :: records →
          at_ x.1 = if records.length = x.2 * count.toNat then none else some .badLength)) ∧
      (at_ 0x22 = if 1 < k then some .badLength else if payload = [] ∨ payload = [0x01] then none
        else some .badValue) ∧
      (k ≠ 3 → at_ 0x50 = some .badLength) ∧
      (∀ node hi lo, payload = [node, hi, lo] →
        let length := (hi ++ lo : BitVec 16).toNat
        at_ 0x50 = if 1 ≤ node.toNat ∧ node.toNat ≤ 30 ∧ 1 ≤ length ∧ length ≤ 512 then none else some .badValue) ∧
      (k < 3 ∨ 242 < k → at_ 0x51 = some .badLength) ∧
      (∀ hi lo data, payload = hi :: lo :: data → 1 ≤ data.length → data.length ≤ 240 →
        at_ 0x51 = if (hi ++ lo : BitVec 16).toNat ≤ 511 then none else some .badValue))

/-! ### Queries -/

/-- QUERY_STATUS is answered OK with the items of R172 as they stand, in the layout of Table 11-3, and changes
nothing but what hearing and answering a frame changes. READ_COUNTERS is answered OK with every line and link
counter, its own frame counted; with the clear request every one of them is 0 afterwards; the per-node counters
stay (R172, R173, Tables 11-3 and 11-4). -/
def Obligations.StatusAndCountersAreAnswered : Prop :=
  (∀ (s : State) (tag : Byte), let f : UpFrame := ⟨0, 0x20, tag, []⟩
        s.accepts f = true → s.txSettled = true → s.decided = true →
        exec (.queryStatus tag []) s = .next (s.answered f .ok (
          [s.sched.runState.code, flagByte s.sched.safe, s.tables.generation, flagByte s.tables.commitPending]
            ++ halfBytes s.sched.cycleNumber ++ halfBytes s.sched.overrun
            ++ [natByte s.queue.urgent.length, natByte s.queue.normal.length, natByte s.outstanding.length,
                s.bulk.state.code, natByte (s.notices.inFlight.toList.length + s.notices.waiting.length),
                s.notices.lost]))) ∧
  (∀ (s : State) (tag : Byte),
        let f : UpFrame := ⟨0, 0x22, tag, []⟩
        let g : UpFrame := ⟨0, 0x22, tag, [0x01]⟩
        let l := s.line.counters
        let k := s.link.counters
        let record : List Byte :=
          [l.framesSent, l.broadcastsSent, l.replied, l.nodeErrors, l.timeouts, l.badChecks, l.malformed,
            l.wrongSources, l.strayBytes, l.withdrawn, satInc k.validFrames, k.checkErrors, k.discards,
            k.huntBytes, k.repliesSent, k.noticesSent].flatMap halfBytes
        s.txSettled = true → s.decided = true →
        (s.accepts f = true → exec (.readCounters tag []) s = .next (s.answered f .ok record)) ∧
        (s.accepts g = true → exec (.readCounters tag [0x01]) s = .next { s.answered g .ok record with
          line := { s.line with counters := ⟨0, 0, 0, 0, 0, 0, 0, 0, 0, 0⟩ }
          link := { (s.answered g .ok record).link with counters := ⟨0, 0, 0, 0, 0, 0⟩ } }))

/-- QUERY_NODE is answered OK for a node in any health with its configuration, runtime fields and image summary
(R58, R78, Table 11-3), and changes nothing but what hearing and answering a frame changes. The quality of an
input image is NONE, LOST, STALE or GOOD by the first row of R66 that applies, and an input reading carries
quality, age, update sequence and status, and the data unless the quality is NONE (R66, R70, Table 11-2). -/
def Obligations.QueryNodeAndQuality : Prop :=
  (∀ (s : State) (addr tag : Byte), let f : UpFrame := ⟨addr, 0x21, tag, []⟩
      let n := addr.toNat
      let cfg := s.cfg n
      let r := s.node n
      let i := s.image n
      s.accepts f = true → s.txSettled = true → s.decided = true →
      exec (.queryNode addr tag []) s = .next (s.answered f .ok (
        [flagByte cfg.enabled, cfg.inputLen, cfg.outputLen] ++ halfBytes cfg.replyTimeout
          ++ [cfg.retryLimit, cfg.offlineThreshold, cfg.probeInterval] ++ halfBytes cfg.staleLimit
          ++ [cfg.notify.code, r.health.code, natByte r.failCount, r.countdown, flagByte r.attention]
          ++ halfBytes r.attempts ++ halfBytes r.failures
          ++ [(s.quality n).code] ++ halfBytes i.age ++ [i.sequence, flagByte i.outSet]))) ∧
  (∀ (s : State) (n : Nat),
      ((s.image n).valid = false → s.quality n = .none) ∧
      ((s.image n).valid = true → s.health n = .offline → s.quality n = .lost) ∧
      ((s.image n).valid = true → s.health n ≠ .offline →
        ((s.cfg n).staleLimit.toNat < (s.image n).age.toNat → s.quality n = .stale) ∧
        ((s.image n).age.toNat ≤ (s.cfg n).staleLimit.toNat → s.quality n = .good)) ∧
      s.reading n = (s.quality n).code :: (s.image n).age.extractLsb' 8 8 :: (s.image n).age.extractLsb' 0 8 ::
        (s.image n).sequence :: (s.image n).status ::
        (if (s.image n).valid then (s.image n).data else []))

/-- READ_TABLE is answered OK with the records asked for, out of the copy asked for, for the tables NODE, MAIN
and INTERLEAVE with a position and count in range and for LINE; and BAD_VALUE for any other copy, table,
position or count; it changes nothing else (R158, R177, Table 11-2). The two bytes after the table byte of a
LINE reply are open (log entry 15). -/
def Obligations.ReadTableAnswersTheRecords : Prop :=
  ∀ (s : State) (tag copy table first count : Byte),
    let f : UpFrame := ⟨0, 0x23, tag, [copy, table, first, count]⟩
    let set := if copy = 0 then s.tables.shadow else s.tables.active
    let a := first.toNat
    let k := count.toNat
    let c : Instr := .readTable tag [copy, table, first, count]
    s.accepts f = true → s.txSettled = true → s.decided = true →
    (copy.toNat ≤ 1 → table = 0 → ∃ x y, exec c s = .next (s.answered f .ok (
      [copy, table, x, y, set.line.downGap, set.line.interleaveSpacing, set.line.demandShare, set.line.bulkPace]
        ++ halfBytes set.line.bulkBackoff ++ halfBytes set.line.cycleMinPeriod
        ++ halfBytes set.line.silenceLimit ++ halfBytes set.line.noticeResend))) ∧
    (copy.toNat ≤ 1 → table = 1 → 1 ≤ a → 1 ≤ k → a + k ≤ 31 → k ≤ 21 → exec c s = .next (s.answered f .ok (
      [copy, table, first, count]
        ++ (List.range k).flatMap fun i => (bankGet set.nodes NodeConfig.cleared (a + i)).bytes))) ∧
    (copy.toNat ≤ 1 → table = 2 → 1 ≤ k → a + k ≤ 64 → exec c s = .next (s.answered f .ok (
      [copy, table, first, count, natByte set.mainLen, natByte set.ilLen]
        ++ (List.range k).flatMap fun i =>
          let e := set.main[a + i]?.getD ⟨0, 1, 0⟩
          [e.node, e.divisor, e.phase]))) ∧
    (copy.toNat ≤ 1 → table = 3 → 1 ≤ k → a + k ≤ 4 → exec c s = .next (s.answered f .ok (
      [copy, table, first, count, natByte set.mainLen, natByte set.ilLen]
        ++ (List.range k).map fun i => set.interleave[a + i]?.getD 0))) ∧
    (1 < copy.toNat ∨ 3 < table.toNat ∨ (table = 1 ∧ (a = 0 ∨ k = 0 ∨ 31 < a + k ∨ 21 < k)) ∨
        (table = 2 ∧ (k = 0 ∨ 64 < a + k)) ∨ (table = 3 ∧ (k = 0 ∨ 4 < a + k)) →
      exec c s = .next (s.answered f .badValue []))

/-! ### Tables -/

/-- LOAD_LINE, LOAD_NODES, LOAD_MAIN, LOAD_INTERLEAVE, SET_LENGTHS and DISCARD: COMMIT_PENDING while a commit is
pending, BAD_VALUE where the load refuses a position, count or field, and else OK with the shadow written; the
active copy and everything else stays (R155 to R158, R160). What each load writes is
`LoadedRecordsReachTheirPlaces` and `TableRecordsReadBack`. -/
def Obligations.LoadsWriteTheShadowAlone : Prop :=
  ∀ (s : State) (tag cmd : Byte) (payload : List Byte) (c : Instr) (load : TableSet → Option TableSet),
    (c, cmd, load) ∈
      [(Instr.loadLine tag payload, (0x30 : Byte), loadLine payload),
       (.loadNodes tag payload, 0x31, loadNodes payload),
       (.loadMain tag payload, 0x32, loadMain payload),
       (.loadInterleave tag payload, 0x33, loadInterleave payload),
       (.setLengths tag payload, 0x34, setLengths payload),
       (.discard tag payload, 0x36, fun _ => some s.tables.active)] →
    let f : UpFrame := ⟨0, cmd, tag, payload⟩
    s.accepts f = true → s.txSettled = true → s.decided = true →
    (s.tables.commitPending = true → exec c s = .next (s.answered f .commitPending [])) ∧
    (s.tables.commitPending = false → load s.tables.shadow = none →
      exec c s = .next (s.answered f .badValue [])) ∧
    (∀ t, s.tables.commitPending = false → load s.tables.shadow = some t →
      exec c s = .next { s.answered f .ok [] with tables := { s.tables with shadow := t } })

/-- A line, node or main record is accepted exactly when its bytes are those of a record whose every field lies
in its range (R40, R152, R156, R157, Table 11-5): no bit of a record is dropped or made up. -/
def Obligations.TableRecordsReadBack : Prop :=
  (∀ (bytes : List Byte) (p : LineParams), LineParams.ofBytes bytes = some p ↔
    bytes = p.bytes ∧ 1 ≤ p.downGap.toNat ∧ p.downGap.toNat ≤ 50 ∧ 1 ≤ p.interleaveSpacing.toNat ∧
      p.interleaveSpacing.toNat ≤ 8 ∧ 1 ≤ p.demandShare.toNat ∧ p.demandShare.toNat ≤ 8 ∧
      1 ≤ p.bulkPace.toNat ∧ p.bulkPace.toNat ≤ 8 ∧ 1 ≤ p.bulkBackoff.toNat ∧ 10 ≤ p.noticeResend.toNat) ∧
  (∀ (bytes : List Byte) (c : NodeConfig), NodeConfig.ofBytes bytes = some c ↔
    bytes = c.bytes ∧ c.inputLen.toNat ≤ 32 ∧ c.outputLen.toNat ≤ 16 ∧ 2 ≤ c.replyTimeout.toNat ∧
      c.replyTimeout.toNat ≤ 2000 ∧ c.retryLimit.toNat ≤ 3 ∧ 1 ≤ c.offlineThreshold.toNat ∧
      c.offlineThreshold.toNat ≤ 15 ∧ 1 ≤ c.probeInterval.toNat ∧ 1 ≤ c.staleLimit.toNat) ∧
  (∀ (bytes : List Byte) (e : MainEntry), MainEntry.ofBytes bytes = some e ↔
    bytes = e.bytes ∧ 1 ≤ e.node.toNat ∧ e.node.toNat ≤ 30 ∧ 1 ≤ e.divisor.toNat ∧ e.divisor.toNat ≤ 16 ∧
      e.phase.toNat ≤ 15)

/-- A load whose position, count or length lies out of its range, or with one record of its run out of range, is
refused whole; every other is taken (R155 step 2). Records loaded in range stand in the shadow afterwards at the
positions the load names, each whole, and every other record, and the other tables, as before (R156, R157,
R177). -/
def Obligations.LoadedRecordsReachTheirPlaces : Prop :=
  (∀ (p : LineParams) (t : TableSet), LineParams.ofBytes p.bytes = some p →
    loadLine p.bytes t = some { t with line := p }) ∧
  (∀ (a : Nat) (rs : List NodeConfig) (t : TableSet), 1 ≤ a → rs ≠ [] → a + rs.length ≤ 31 →
    (∀ r ∈ rs, NodeConfig.ofBytes r.bytes = some r) →
    ∃ v, loadNodes (natByte a :: natByte rs.length :: rs.flatMap NodeConfig.bytes) t = some { t with nodes := v } ∧
      ∀ n, 1 ≤ n → n ≤ 30 → bankGet v NodeConfig.cleared n =
        if a ≤ n ∧ n < a + rs.length then rs.getD (n - a) NodeConfig.cleared
        else bankGet t.nodes NodeConfig.cleared n) ∧
  (∀ (a : Nat) (rs : List MainEntry) (t : TableSet), rs ≠ [] → a + rs.length ≤ 64 →
    (∀ r ∈ rs, MainEntry.ofBytes r.bytes = some r) →
    ∃ v, loadMain (natByte a :: natByte rs.length :: rs.flatMap MainEntry.bytes) t = some { t with main := v } ∧
      ∀ i (h : i < 64), v[i] = if a ≤ i ∧ i < a + rs.length then rs.getD (i - a) MainEntry.cleared
        else t.main[i]) ∧
  (∀ (a : Nat) (rs : List Byte) (t : TableSet), rs ≠ [] → a + rs.length ≤ 4 →
    (∀ r ∈ rs, 1 ≤ r.toNat ∧ r.toNat ≤ 30) →
    ∃ v, loadInterleave (natByte a :: natByte rs.length :: rs) t = some { t with interleave := v } ∧
      ∀ i (h : i < 4), v[i] = if a ≤ i ∧ i < a + rs.length then rs.getD (i - a) 0 else t.interleave[i]) ∧
  (∀ (m i : Byte) (t : TableSet), m.toNat ≤ 64 → i.toNat ≤ 4 →
    setLengths [m, i] t = some { t with mainLen := m.toNat, ilLen := i.toNat }) ∧
  (∀ (first count : Byte) (records : List Byte) (t : TableSet),
    let a := first.toNat
    let k := count.toNat
    (∀ bytes, (loadLine bytes t).isSome = (LineParams.ofBytes bytes).isSome) ∧
    ((loadNodes (first :: count :: records) t).isSome = true ↔ 1 ≤ a ∧ 1 ≤ k ∧ a + k ≤ 31 ∧
      ∀ i, i < k → (NodeConfig.ofBytes ((records.drop (11 * i)).take 11)).isSome = true) ∧
    ((loadMain (first :: count :: records) t).isSome = true ↔ 1 ≤ k ∧ a + k ≤ 64 ∧
      ∀ i, i < k → (MainEntry.ofBytes ((records.drop (3 * i)).take 3)).isSome = true) ∧
    ((loadInterleave (first :: count :: records) t).isSome = true ↔ 1 ≤ k ∧ a + k ≤ 4 ∧
      ∀ i, i < k → ∃ b, records[i]? = some b ∧ 1 ≤ b.toNat ∧ b.toNat ≤ 30) ∧
    ((setLengths [first, count] t).isSome = true ↔ a ≤ 64 ∧ k ≤ 4))

/-- COMMIT: COMMIT_PENDING while a commit is pending; INVALID_TABLES with the reason and index of the first
check that fails; else ACCEPTED with the commit pending, and an application that is due follows in the same
event. The checks in order: the lengths in range and no interleave list without a main list (reason 1, index 0);
every main entry in use naming an enabled node, with its phase below its divisor of 1 to 16 (reason 2, the first
entry that fails); every interleave entry in use naming an enabled node that no earlier one names (reason 3, the
first that fails) (R159 to R161). -/
def Obligations.CommitValidatesTheShadow : Prop :=
  (∀ (s : State) (tag : Byte), let f : UpFrame := ⟨0, 0x35, tag, []⟩
    s.accepts f = true → s.txSettled = true → s.decided = true →
    (s.tables.commitPending = true → exec (.commit tag []) s = .next (s.answered f .commitPending [])) ∧
    (∀ reason index, s.tables.commitPending = false → s.tables.shadow.invalid = some (reason, index) →
      exec (.commit tag []) s = .next (s.answered f .invalidTables [reason, index])) ∧
    (s.tables.commitPending = false → s.tables.shadow.invalid = none →
      exec (.commit tag []) s = .next
        ({ s.answered f .accepted [] with tables := { s.tables with commitPending := true } } : State).follow)) ∧
  (∀ t : TableSet,
    let lengths : Prop := t.mainLen ≤ 64 ∧ t.ilLen ≤ 4 ∧ (t.mainLen = 0 → t.ilLen = 0)
    let node (b : Byte) : Prop := 1 ≤ b.toNat ∧ b.toNat ≤ 30 ∧
      (bankGet t.nodes NodeConfig.cleared b.toNat).enabled = true
    let main (i : Nat) : Prop :=
      let e := t.main[i]?.getD ⟨0, 1, 0⟩
      node e.node ∧ 1 ≤ e.divisor.toNat ∧ e.divisor.toNat ≤ 16 ∧ e.phase.toNat < e.divisor.toNat
    let slot (i : Nat) : Byte := t.interleave[i]?.getD 0
    let interleave (i : Nat) : Prop := node (slot i) ∧ ∀ j, j < i → slot j ≠ slot i
    (t.invalid = none ↔ lengths ∧ (∀ i, i < t.mainLen → main i) ∧ (∀ i, i < t.ilLen → interleave i)) ∧
    (¬ lengths → t.invalid = some (0x01, 0x00)) ∧
    (∀ i, lengths → i < t.mainLen → (∀ j, j < i → main j) → ¬ main i → t.invalid = some (0x02, natByte i)) ∧
    (∀ i, lengths → (∀ j, j < t.mainLen → main j) → i < t.ilLen → (∀ j, j < i → interleave j) → ¬ interleave i →
      t.invalid = some (0x03, natByte i)))

/-- COMMIT_APPLICATION completes whenever a commit is pending, the line is IDLE and the run state is not RUNNING
or the boundary mark is set. The active tables become the shadow, the commit state NONE and the generation one
higher; each node's health, fail_count, countdown and attention and both image records change as R53 to R55 and
R77 say; the entries of disabled nodes and of changed lengths are answered in queue order, a REFRESH with its
input reading, and gone (R91, R97; NODE_REMOVED for a REFRESH of a disabled node, where R72 says otherwise, is
the model's choice, log entry 34); an active transfer to a disabled node ends NODE_REMOVED with BULK_END, and a
cancel for one is cleared (R116); COMMIT_APPLIED is offered, in either order with BULK_END (log entry 13); a
silence_limit of 0 stops the silence timer (R133); the schedule restart keeps credit, pace, run state, SAFE
flag, cycle number, overrun count and min-period wait, and its walk and all that is then due follow in the event
(R17, R161 to R163). -/
def Obligations.CommitApplicationTakesEffect : Prop :=
  ∀ s : State, s.tables.commitPending = true → s.line.phase = .idle →
    s.sched.runState ≠ .running ∨ s.sched.boundaryMark = true →
    let before (n : Nat) : NodeConfig := s.cfg n
    let after (n : Nat) : NodeConfig := bankGet s.tables.shadow.nodes NodeConfig.cleared n
    let disabled (n : Nat) : Bool := (before n).enabled && !(after n).enabled
    let kept (n : Nat) : Bool := (before n).enabled && (after n).enabled
    let removed : Bool := s.bulk.state.active && s.bulk.node.any disabled
    let applied : Notice := .commitApplied (s.tables.generation + 1)
    let ended : Notice := .bulkEnd (s.bulk.node.getD 0) (.failed .nodeRemoved) s.bulk.acked
    ∃ v : State, exec .commitApplication s = .next v.walk.follow ∧
      let verdict (e : Entry) : Option (Result × List Byte) :=
        if disabled e.node then some (.nodeRemoved, if e.kind = .refresh then v.reading e.node else [])
        else if kept e.node = true ∧ e.kind = .exchange ∧ (before e.node).outputLen ≠ (after e.node).outputLen then
          some (.nodeChanged, [])
        else if kept e.node = true ∧ e.kind = .refresh ∧ (before e.node).inputLen ≠ (after e.node).inputLen then
          some (.refreshFailed, v.reading e.node)
        else none
      v.tables = { s.tables with
        active := s.tables.shadow, commitPending := false, generation := s.tables.generation + 1 } ∧
      v.sched = { s.sched with
        phase := .sweep
        sweepAddr := 1
        mainIndex := 0
        ilPointer := 0
        spacing := 0
        ready := none
        attached := none
        detached := match s.sched.attached with
          | some ⟨step, _, false⟩ => some step
          | _ => s.sched.detached
        cycleStart := none
        suspendedMark := false
        boundaryMark := decide (s.tables.shadow.mainLen = 0) } ∧
      (∀ n, 1 ≤ n → n ≤ 30 →
        let old := before n
        let new := after n
        let r := s.node n
        let r' := v.node n
        let changed : Prop := old.inputLen ≠ new.inputLen ∨ old.outputLen ≠ new.outputLen
        (old.enabled = true → new.enabled = false →
          r' = { r with health := .disabled, failCount := 0, countdown := 0, attention := false }) ∧
        (new.enabled = true → old.enabled = false ∨ changed →
          r' = { r with health := .probing, failCount := 0, countdown := 0, attention := false }) ∧
        (old.enabled = true → new.enabled = true → ¬ changed →
          r' = { r with failCount :=
            if r.health = .offline then new.offlineThreshold.toNat
            else if (r.health = .suspect ∨ r.health = .probing) ∧ new.offlineThreshold.toNat ≤ r.failCount then
              new.offlineThreshold.toNat - 1
            else r.failCount }) ∧
        (old.enabled = false → new.enabled = false → r' = r) ∧
        (old.enabled = true → new.enabled = true → old.inputLen = new.inputLen →
          (v.image n).data = (s.image n).data ∧ (v.image n).valid = (s.image n).valid ∧
            (v.image n).age = (s.image n).age ∧ (v.image n).status = (s.image n).status) ∧
        (old.enabled = false ∨ new.enabled = false ∨ old.inputLen ≠ new.inputLen →
          (v.image n).valid = false ∧ (v.image n).data = List.replicate new.inputLen.toNat 0 ∧
            (v.image n).status = 0 ∧ (v.image n).age = 65535) ∧
        (v.image n).sequence = (s.image n).sequence ∧
        (old.enabled = true → new.enabled = true → old.outputLen = new.outputLen →
          (v.image n).outSet = (s.image n).outSet ∧ (v.image n).outData = (s.image n).outData) ∧
        (old.enabled = false ∨ new.enabled = false ∨ old.outputLen ≠ new.outputLen →
          (v.image n).outSet = false ∧ (v.image n).outData = List.replicate new.outputLen.toNat 0)) ∧
      (∀ cls, v.queue.fifo cls = (s.queue.fifo cls).filter fun e => (verdict e).isNone) ∧
      v.link = { s.link with
        replies := s.link.replies ++ s.queue.entries.flatMap fun e =>
          match verdict e with
          | some (r, content) => e.tags.map fun tg =>
              ⟨natByte e.node ||| 0x80, e.kind.command.code ||| 0x80, tg.tag, r.code :: content⟩
          | none => []
        silenceTimer := if s.tables.shadow.line.silenceLimit = 0 then none else s.link.silenceTimer } ∧
      v.bulk = { s.bulk with
        state := if removed then .ended (.failed .nodeRemoved) else s.bulk.state
        segPhase := if removed = true ∧ s.bulk.segPhase = .retryPending then .none else s.bulk.segPhase
        cancel := s.bulk.cancel.filter fun c => !disabled c.1 } ∧
      (removed = false → v.notices = s.notices.offer applied) ∧
      (removed = true → v.notices = (s.notices.offer applied).offer ended ∨
        v.notices = (s.notices.offer ended).offer applied) ∧
      v.line = s.line ∧ v.now = s.now ∧ v.pending = s.pending ∧ v.resetAsserted = s.resetAsserted ∧
      v.upStrap = s.upStrap ∧ v.downStrap = s.downStrap

/-! ### Run states, the walk, the min-period wait and SAFE -/

/-- START: WRONG_STATE outside STOPPED, NO_SCHEDULE with an empty active main list, and else OK with the run
state RUNNING and the schedule walk taken from the position STOP left; nothing changes but the scheduler, what
the walk changes and the link, and then what is due (the arbitration of the walk's want) follows in the event
(R121, R129). RESUME_CYCLE: WRONG_STATE outside SUSPENDED, and else OK with the run state RUNNING; a kept ready
step or attached step is kept, and with neither the walk is taken from the kept position (R131).
MIN_PERIOD_WAIT_EXPIRY completes once the wait's time has come: in STOPPED and SUSPENDED the wait is absent and
nothing else changes; in RUNNING the walk is taken on from there; the line, the requests, the transfer, the
images, the tables and the reply queue stay, and what is then due follows (R15, R121). -/
def Obligations.StartResumeAndWaitEndTakeTheWalk : Prop :=
  (∀ (s : State) (tag : Byte), let f : UpFrame := ⟨0, 0x40, tag, []⟩
      let walked := ({ s with sched := { s.sched with runState := .running } } : State).walk
      s.accepts f = true →
      (s.txSettled = true → s.decided = true → s.sched.runState ≠ .stopped →
        exec (.start tag []) s = .next (s.answered f .wrongState [])) ∧
      (s.txSettled = true → s.decided = true → s.sched.runState = .stopped → s.tables.active.mainLen = 0 →
        exec (.start tag []) s = .next (s.answered f .noSchedule [])) ∧
      (s.sched.runState = .stopped → s.tables.active.mainLen ≠ 0 →
        ∃ t : State, exec (.start tag []) s = .next t.follow ∧ t.sched = walked.sched ∧ t.nodes = walked.nodes ∧
          t.sched.runState = .running ∧ t.sched.credit = s.sched.credit ∧ t.sched.pace = s.sched.pace ∧
          t.link.replies = s.link.replies ++ [⟨0x80, 0xC0, tag, [0x00]⟩] ∧
          t.line = s.line ∧ t.queue = s.queue ∧ t.bulk = s.bulk ∧ t.images = s.images ∧ t.tables = s.tables ∧
          t.now = s.now ∧ t.resetAsserted = s.resetAsserted ∧ t.upStrap = s.upStrap ∧ t.downStrap = s.downStrap ∧
          t.pending = s.pending)) ∧
  (∀ (s : State) (tag : Byte), let f : UpFrame := ⟨0, 0x43, tag, []⟩
      let running : State := { s with sched := { s.sched with runState := .running } }
      s.accepts f = true →
      (s.txSettled = true → s.decided = true → s.sched.runState ≠ .suspended →
        exec (.resumeCycle tag []) s = .next (s.answered f .wrongState [])) ∧
      (s.txSettled = true → s.sched.runState = .suspended → s.sched.ready.isSome = true ∨ s.sched.attached.isSome = true →
        exec (.resumeCycle tag []) s =
          .next ({ s.answered f .ok [] with sched := { s.sched with runState := .running } } : State).follow) ∧
      (s.sched.runState = .suspended →
        ∃ t : State, exec (.resumeCycle tag []) s = .next t.follow ∧ t.sched = running.walk.sched ∧ t.nodes = running.walk.nodes ∧
          t.link.replies = s.link.replies ++ [⟨0x80, 0xC3, tag, [0x00]⟩] ∧
          t.line = s.line ∧ t.queue = s.queue ∧ t.bulk = s.bulk ∧ t.images = s.images ∧ t.tables = s.tables ∧
          t.now = s.now ∧ t.resetAsserted = s.resetAsserted ∧ t.upStrap = s.upStrap ∧ t.downStrap = s.downStrap ∧
          t.pending = s.pending)) ∧
  (∀ (s : State) (e : Nat), s.sched.minWait = some e → e ≤ s.now →
      let ended : State := { s with sched := { s.sched with minWait := none } }
      (s.txSettled = true → s.decided = true → s.sched.runState ≠ .running → exec .minPeriodWaitExpiry s = .next ended) ∧
      (∃ t : State, exec .minPeriodWaitExpiry s = .next t.follow ∧ t.sched = ended.walk.sched ∧ t.nodes = ended.walk.nodes ∧
        t.link.replies = s.link.replies ∧ t.link.counters = s.link.counters ∧ t.line = s.line ∧
        t.queue = s.queue ∧ t.bulk = s.bulk ∧ t.images = s.images ∧ t.tables = s.tables ∧ t.now = s.now ∧
        t.resetAsserted = s.resetAsserted ∧ t.upStrap = s.upStrap ∧ t.downStrap = s.downStrap ∧
        t.pending = s.pending))

/-- STOP: WRONG_STATE in STOPPED, and else OK with the run state STOPPED and the schedule restart: the position
at the start of a cycle, the ready step, a pending retry and a min-period wait dropped, a step whose order is on
the line detached. SUSPEND_CYCLE: OK in RUNNING with the run state SUSPENDED, the min-period wait dropped and
the suspended mark set if the cycle has begun, and WRONG_STATE in STOPPED and SUSPENDED. Neither changes
anything else but what hearing and answering a frame changes; with the line IDLE a pending commit is then
applied in the same event (R17, R130, R131, R161). -/
def Obligations.StopAndSuspendHoldTheCycle : Prop :=
  ∀ (s : State) (tag : Byte),
    let f : UpFrame := ⟨0, 0x41, tag, []⟩
    let g : UpFrame := ⟨0, 0x42, tag, []⟩
    s.txSettled = true → s.decided = true →
    (s.accepts f = true → s.sched.runState = .stopped →
      exec (.stop tag []) s = .next (s.answered f .wrongState [])) ∧
    (s.accepts f = true → s.sched.runState ≠ .stopped →
      exec (.stop tag []) s = .next ({ s.answered f .ok [] with sched := { s.sched with
        runState := .stopped
        phase := .sweep
        sweepAddr := 1
        mainIndex := 0
        ilPointer := 0
        spacing := 0
        ready := none
        attached := none
        detached :=
          match s.sched.attached with
          | some ⟨step, _, false⟩ => some step
          | _ => s.sched.detached
        cycleStart := none
        suspendedMark := false
        boundaryMark := decide (s.tables.active.mainLen = 0)
        minWait := none } } : State).follow) ∧
    (s.accepts g = true → s.sched.runState = .running →
      exec (.suspendCycle tag []) s = .next ({ s.answered g .ok [] with sched := { s.sched with
        runState := .suspended
        minWait := none
        suspendedMark := s.sched.suspendedMark || s.sched.cycleStart.isSome } } : State).follow) ∧
    (s.accepts g = true → s.sched.runState ≠ .running →
      exec (.suspendCycle tag []) s = .next (s.answered g .wrongState []))

/-- Where the walk rests with a ready step it is one the manual allows: a PROBE of an OFFLINE node with
countdown 0 at or above the sweep address, or a MAIN step, with no slot owed, of an entry in use that is due and
whose node is not OFFLINE, or an INTERLEAVE step of a node not OFFLINE taken with a slot owed. The walk leaves
the credit, the pace, the run state, the SAFE flag, the attached and the detached step alone, and everything
outside the scheduler but probe countdowns and notices (R5 to R8). A PROBE step's record holds its node's
address as the sweep address it came from (log entry 33). The moves that lead there, and the cycle boundary, are
`WalkMovesAndTheCycleBoundary`. -/
def Obligations.WalkRestsOnAnAllowedStep : Prop :=
  ∀ s : State,
    s.walk = { s with sched := s.walk.sched, nodes := s.walk.nodes, notices := s.walk.notices } ∧
    (∀ n, { s.walk.node n with countdown := (s.node n).countdown } = s.node n) ∧
    s.walk.sched.runState = s.sched.runState ∧ s.walk.sched.safe = s.sched.safe ∧
    s.walk.sched.safeBroadcast = s.sched.safeBroadcast ∧ s.walk.sched.credit = s.sched.credit ∧
    s.walk.sched.pace = s.sched.pace ∧ s.walk.sched.attached = s.sched.attached ∧
    s.walk.sched.detached = s.sched.detached ∧
    (∀ st, s.sched.ready = none → s.walk.sched.ready = some st →
      let d := s.walk.sched
      s.sched.runState = .running ∧ s.sched.attached = none ∧ s.sched.minWait = none ∧
      (st.kind = .probe → 1 ≤ st.node ∧ st.node ≤ 30 ∧ st.pos = st.node ∧ d.phase = .sweep ∧
        d.sweepAddr ≤ st.node ∧ s.health st.node = .offline ∧ (s.walk.node st.node).countdown = 0 ∧
        ∀ a, 1 ≤ a → a ≤ 30 → d.sweepAddr ≤ a → s.health a = .offline → (s.walk.node a).countdown = 0 →
          st.node ≤ a) ∧
      (st.kind = .main → d.phase = .main ∧ st.pos = d.mainIndex ∧ st.pos < s.tables.active.mainLen ∧
        st.node = (s.mainEntry st.pos).node.toNat ∧ s.health st.node ≠ .offline ∧
        ¬ (0 < s.tables.active.ilLen ∧ d.spacing = s.tables.active.line.interleaveSpacing.toNat) ∧
        d.cycleNumber.toNat % (s.mainEntry st.pos).divisor.toNat = (s.mainEntry st.pos).phase.toNat) ∧
      (st.kind = .interleave → d.phase = .main ∧ 0 < s.tables.active.ilLen ∧ st.pos = d.ilPointer ∧
        d.spacing = s.tables.active.line.interleaveSpacing.toNat ∧ st.node = s.ilNode st.pos ∧
        s.health st.node ≠ .offline))

/-- The walk is taken in RUNNING with no ready step, no attached step, no min-period wait and a main list, and
else changes nothing; it moves until a move rests or stops (at most 40000 moves, log entry 22). In SWEEP it
readies a PROBE of the lowest OFFLINE node at or above the sweep address with countdown 0 (its record holding
that address, log entry 33), and with none goes to MAIN, the sweep address past all nodes. In MAIN an owed slot
is skipped for an OFFLINE node, the pointer advanced and the spacing 0, and else rests; an entry that is due and
not OFFLINE rests; any other entry is skipped; past the last entry is the cycle boundary, after which the walk
goes on unless a min-period wait or a pending commit holds it. The boundary advances the cycle number, sets the
boundary mark, clears the cycle start and the suspended mark, takes the position to the next sweep, lowers each
OFFLINE node's countdown by 1 down to 0, and tests the duration of a cycle with a start: shorter than a non-zero
cycle_min_period starts the wait, longer with the suspended mark clear is an overrun, counted up to 65535 and
offered as CYCLE_OVERRUN (R5 to R8, R12 to R16, R19). -/
def Obligations.WalkMovesAndTheCycleBoundary : Prop :=
  ∀ s : State,
    let d := s.sched
    let i := d.mainIndex
    let p := d.ilPointer
    let period := s.tables.active.line.cycleMinPeriod.toNat
    let due (a : Nat) : Prop := 1 ≤ a ∧ a ≤ 30 ∧ d.sweepAddr ≤ a ∧ s.health a = .offline ∧ (s.node a).countdown = 0
    let owed : Prop := 0 < s.tables.active.ilLen ∧ d.spacing = s.tables.active.line.interleaveSpacing.toNat
    let taken : Prop := d.runState = .running ∧ d.ready = none ∧ d.attached = none ∧ d.minWait = none ∧
      0 < s.tables.active.mainLen
    let entry := s.mainEntry i
    let mainDue : Prop := d.cycleNumber.toNat % entry.divisor.toNat = entry.phase.toNat ∧
      s.health entry.node.toNat ≠ .offline
    let rests (st : SchedStep) : Prop := s.walkMove = ({ s with sched := { d with ready := some st } }, false)
    let late : Bool := match d.cycleStart with
      | none => false
      | some start => decide (period ≠ 0 ∧ start + period < s.now) && !d.suspendedMark
    let wait : Option Nat := match d.cycleStart with
      | none => d.minWait
      | some start => if period ≠ 0 ∧ s.now < start + period then some (start + period) else d.minWait
    (¬ taken → s.walk = s) ∧
    (taken → s.walk = walkMoves 40000 s) ∧
    (∀ k, walkMoves (k + 1) s = if s.walkMove.2 = true then walkMoves k s.walkMove.1 else s.walkMove.1) ∧
    (∀ a, d.phase = .sweep → due a → (∀ b, due b → a ≤ b) → rests ⟨.probe, a, a⟩) ∧
    (d.phase = .sweep → (∀ b, ¬ due b) →
      s.walkMove = ({ s with sched := { d with phase := .main, sweepAddr := 31 } }, true)) ∧
    (d.phase = .main → owed → s.health (s.ilNode p) = .offline →
      s.walkMove = ({ s with sched := { d with
        ilPointer := (p + 1) % s.tables.active.ilLen, spacing := 0 } }, true)) ∧
    (d.phase = .main → owed → s.health (s.ilNode p) ≠ .offline → rests ⟨.interleave, s.ilNode p, p⟩) ∧
    (d.phase = .main → ¬ owed → i < s.tables.active.mainLen →
      (mainDue → rests ⟨.main, entry.node.toNat, i⟩) ∧
      (¬ mainDue → s.walkMove = ({ s with sched := { d with mainIndex := i + 1 } }, true))) ∧
    (d.phase = .main → ¬ owed → s.tables.active.mainLen ≤ i →
      s.walkMove = (s.cycleBoundary, wait.isNone && !s.tables.commitPending)) ∧
    s.cycleBoundary = { s with
      sched := { d with
        cycleNumber := d.cycleNumber + 1
        overrun := if late then satInc d.overrun else d.overrun
        minWait := wait
        boundaryMark := true
        phase := .sweep
        sweepAddr := 1
        mainIndex := 0
        cycleStart := none
        suspendedMark := false }
      nodes := s.cycleBoundary.nodes
      notices := if late then s.notices.offer .cycleOverrun else s.notices } ∧
    (∀ n, 1 ≤ n → n ≤ 30 → s.cycleBoundary.node n = { s.node n with
      countdown := if s.health n = .offline ∧ (s.node n).countdown ≠ 0 then (s.node n).countdown - 1
        else (s.node n).countdown })

/-- CLEAR_SAFE: with the SAFE flag set OK, the flag and a safe-broadcast request not yet ordered cleared; with
the flag clear WRONG_STATE; nothing else changes but what hearing and answering a frame changes, so completed
PASS entries stay completed and a suspended transfer stays suspended (R138). RESTART_WARM is answered OK and a
restart marked pending, its reply the last of the replies still to be sent; nothing else changes (R174). -/
def Obligations.ClearSafeAndRestartWarm : Prop :=
  (∀ (s : State) (tag : Byte), let f : UpFrame := ⟨0, 0x44, tag, []⟩
      s.accepts f = true → s.txSettled = true → s.decided = true →
      (s.sched.safe = true → exec (.clearSafe tag []) s =
        .next { s.answered f .ok [] with sched := { s.sched with safe := false, safeBroadcast := false } }) ∧
      (s.sched.safe = false → exec (.clearSafe tag []) s = .next (s.answered f .wrongState []))) ∧
  (∀ (s : State) (tag : Byte), let f : UpFrame := ⟨0, 0x45, tag, []⟩
      s.accepts f = true → s.txSettled = true → s.decided = true →
      exec (.restartWarm tag []) s = .next { s.answered f .ok [] with link :=
        { (s.answered f .ok []).link with restartPending := some (s.link.replies.length + 1) } })

/-- SILENCE_TIMER_EXPIRY completes once the timer's time has come, and the timer stays stopped. With SAFE on
nothing else happens. With SAFE off it is SAFE entry: flag and broadcast request set, a PASS or data segment
order withdrawn from GAP_WAIT and counted, every PASS entry not on the line, or withdrawn, answered SAFE_STATE
in queue order and gone, a RUNNING or WAITING transfer suspended with cause SAFE, a withdrawn segment's attempts
back at their value before the order, or its segment phase NONE where it was DETACHED, SAFE_ENTERED offered;
node table, images, tables and run state stay; what is then due, the broadcast's order among it, follows in the
event (log entries 18 and 29; R29, R96, R113, R121, R134, R135). -/
def Obligations.SilenceExpiryEntersSafe : Prop :=
  ∀ (s : State) (e : Nat), s.link.silenceTimer = some e → e ≤ s.now →
    let w := s.line.phase.withdrawn
    let gone (x : Entry) : Bool := x.kind.isPass && (x.phase != .onLine || passWithdrawn w)
    (s.txSettled = true → s.decided = true → s.sched.safe = true →
      exec .silenceTimerExpiry s = .next { s with link := { s.link with silenceTimer := none } }) ∧
    (s.sched.safe = false → ∃ t : State, exec .silenceTimerExpiry s = .next t.close ∧
      t.sched = { s.sched with safe := true, safeBroadcast := true } ∧ t.link.silenceTimer = none ∧
      (w = none → t.line = s.line) ∧
      (w ≠ none → t.line = { s.line with
        phase := .idle
        counters := { s.line.counters with withdrawn := satInc s.line.counters.withdrawn } }) ∧
      (∀ cls, t.queue.fifo cls = (s.queue.fifo cls).filter fun x => !gone x) ∧
      t.link.replies = s.link.replies ++ ((s.queue.entries.filter gone).flatMap fun x =>
        x.tags.map fun tg => ⟨natByte x.node ||| 0x80, 0x93, tg.tag, [0x27]⟩) ∧
      t.bulk.state = (match s.bulk.state with
        | .running | .waiting _ => .suspended .safe
        | x => x) ∧
      (segmentWithdrawn w = false → t.bulk = { s.bulk with state := t.bulk.state }) ∧
      (segmentWithdrawn w = true → s.bulk.segPhase = .onLine → t.bulk = { s.bulk with
        state := t.bulk.state
        attempts := s.bulk.attempts - 1
        segPhase := if s.bulk.attempts - 1 = 0 then .none else .retryPending }) ∧
      (segmentWithdrawn w = true → s.bulk.segPhase = .detached → t.bulk = { s.bulk with
        state := t.bulk.state, segPhase := .none }) ∧
      (segmentWithdrawn w = true → s.bulk.segPhase = .none ∨ s.bulk.segPhase = .retryPending →
        t.bulk = { s.bulk with state := t.bulk.state }) ∧
      t.notices = s.notices.offer .safeEntered ∧ t.nodes = s.nodes ∧ t.images = s.images ∧
      t.tables = s.tables ∧ t.now = s.now ∧ t.resetAsserted = s.resetAsserted ∧ t.upStrap = s.upStrap ∧ t.downStrap = s.downStrap ∧
      t.pending = s.pending)

/-! ### Input readings, outputs and demand requests -/

/-- The payload of a demand request laid out as Table 11-1 and R176 say (the options byte, the announced
two-byte fields most significant byte first, then the data) reads back as exactly those fields. -/
def Obligations.DemandPayloadsReadBack : Prop :=
  let bit (b : Bool) (v : Byte) : Byte := if b then v else 0
  let two : Option Half → List Byte
    | some h => [h.extractLsb' 8 8, h.extractLsb' 0 8]
    | none => []
  (∀ (urgent : Bool) (age deadline : Option Half),
    let o := bit urgent 1 ||| bit deadline.isSome 2 ||| bit age.isSome 4
    Command.readInput.demandFields (o :: (two age ++ two deadline)) =
      some ⟨o, urgent, age, deadline, false, []⟩) ∧
  (∀ (urgent : Bool) (deadline : Option Half) (data : Option (List Byte)),
    let o := bit urgent 1 ||| bit deadline.isSome 2 ||| bit data.isSome 8
    Command.exchange.demandFields (o :: (two deadline ++ data.getD [])) =
      some ⟨o, urgent, none, deadline, data.isSome, data.getD []⟩) ∧
  (∀ (urgent : Bool) (deadline : Option Half) (bytes : List Byte),
    let o := bit urgent 1 ||| bit deadline.isSome 2
    Command.pass.demandFields (o :: (two deadline ++ bytes)) =
      some ⟨o, urgent, none, deadline, false, bytes⟩ ∧
    Command.probe.demandFields (o :: two deadline) = some ⟨o, urgent, none, deadline, false, []⟩)

/-- READ_INPUT: NODE_DISABLED, an immediate OK or STALE_UNAVAILABLE with the reading, or a refresh, by the first
row of R71 that holds. A refresh is BUSY with 8 tags outstanding, joins the tag to the node's queued REFRESH
entry, promoting a NORMAL one to the tail of URGENT if the request is URGENT, or makes a new entry (R72, R87);
then no reply is sent yet and nothing else changes but what hearing a frame changes, and the arbitration that is
due follows in the event (R121). -/
def Obligations.ReadInputDecidesFreshness : Prop :=
  ∀ (s : State) (addr tag : Byte) (payload : List Byte) (d : DemandFields),
    let f : UpFrame := ⟨addr, 0x10, tag, payload⟩
    let n := addr.toNat
    let c : Instr := .readInput addr tag payload
    let joinable (x : Entry) : Bool := x.kind == .refresh && x.node == n && x.phase == .queued
    let slot : TagSlot := ⟨tag, d.deadline.map fun h => s.now + h.toNat⟩
    let join (x : Entry) : Entry := if joinable x then { x with tags := x.tags ++ [slot] } else x
    s.accepts f = true → s.txSettled = true → s.decided = true → Command.readInput.demandFields payload = some d →
    (s.health n = .disabled → exec c s = .next (s.answered f .nodeDisabled [])) ∧
    (s.health n ≠ .disabled → d.maxAge = none → exec c s = .next (s.answered f .ok (s.reading n))) ∧
    (∀ limit, d.maxAge = some limit → s.health n = .offline →
      exec c s = .next (s.answered f .staleUnavailable (s.reading n))) ∧
    (∀ limit, d.maxAge = some limit → s.health n ≠ .disabled → s.health n ≠ .offline →
      (s.image n).valid = true → (s.image n).age.toNat ≤ limit.toNat →
      exec c s = .next (s.answered f .ok (s.reading n))) ∧
    (∀ limit, d.maxAge = some limit → s.health n ≠ .disabled → s.health n ≠ .offline →
      (s.image n).valid = false ∨ limit.toNat < (s.image n).age.toNat →
      (8 ≤ s.outstanding.length → exec c s = .next (s.answered f .busy [])) ∧
      (s.outstanding.length < 8 → s.queue.urgent.any joinable = true → exec c s =
        .next ({ s.heard with queue := { s.queue with urgent := s.queue.urgent.map join } } : State).follow) ∧
      (s.outstanding.length < 8 → s.queue.urgent.any joinable = false → ∀ e,
        s.queue.normal.find? joinable = some e →
        (d.urgent = false → exec c s =
          .next ({ s.heard with queue := { s.queue with normal := s.queue.normal.map join } } : State).follow) ∧
        (d.urgent = true → exec c s = .next ({ s.heard with queue :=
          ⟨s.queue.urgent ++ [{ e with tags := e.tags ++ [slot] }],
            s.queue.normal.filter fun x => !joinable x⟩ } : State).follow)) ∧
      (s.outstanding.length < 8 → s.queue.urgent.any joinable = false → s.queue.normal.any joinable = false →
        let new : Entry := ⟨.refresh, n, [slot], 0, .queued⟩
        exec c s = .next ({ s.heard with queue :=
          if d.urgent then { s.queue with urgent := s.queue.urgent ++ [new] }
          else { s.queue with normal := s.queue.normal ++ [new] } } : State).follow))

/-- WRITE_OUTPUT: NODE_DISABLED, NODE_OFFLINE, BAD_VALUE with output_len 0, BAD_LENGTH with another number of
bytes, by the first row of R73 that holds, none of them writing; and else the node's output record set to the
bytes, answered HELD while SAFE is on and ACCEPTED otherwise. Nothing else changes. -/
def Obligations.WriteOutputSetsTheRecord : Prop :=
  ∀ (s : State) (addr tag : Byte) (payload : List Byte),
    let f : UpFrame := ⟨addr, 0x11, tag, payload⟩
    let n := addr.toNat
    let c : Instr := .writeOutput addr tag payload
    let outLen := (s.cfg n).outputLen
    s.accepts f = true → s.txSettled = true → s.decided = true →
    (s.health n = .disabled → exec c s = .next (s.answered f .nodeDisabled [])) ∧
    (s.health n = .offline → exec c s = .next (s.answered f .nodeOffline [])) ∧
    (s.health n ≠ .disabled → s.health n ≠ .offline →
      (outLen = 0 → exec c s = .next (s.answered f .badValue [])) ∧
      (outLen ≠ 0 → payload.length ≠ outLen.toNat → exec c s = .next (s.answered f .badLength [])) ∧
      (outLen ≠ 0 → payload.length = outLen.toNat → exec c s = .next
        { s.answered f (if s.sched.safe then .held else .accepted) [] with
          images := bankSet s.images n { s.image n with outSet := true, outData := payload } }))

/-- EXCHANGE: refused by the first check of R84 that fails, the output record and the queue as before; and else
a new EXCHANGE entry at the tail of the class the URGENT flag selects, with the tag and its expiry time, the
node's output record written in the same event if the request carries data, and no reply yet; the arbitration
that is due follows in the event (R74, R85, R121). -/
def Obligations.ExchangeMakesAnEntry : Prop :=
  ∀ (s : State) (addr tag : Byte) (payload : List Byte) (d : DemandFields),
    let f : UpFrame := ⟨addr, 0x12, tag, payload⟩
    let n := addr.toNat
    let c : Instr := .exchange addr tag payload
    let outLen := (s.cfg n).outputLen
    let fits : Prop := d.hasData = true → outLen ≠ 0 ∧ d.rest.length = outLen.toNat
    let new : Entry := ⟨.exchange, n, [⟨tag, d.deadline.map fun h => s.now + h.toNat⟩], 0, .queued⟩
    s.accepts f = true → s.txSettled = true → s.decided = true → Command.exchange.demandFields payload = some d →
    (s.health n = .disabled → exec c s = .next (s.answered f .nodeDisabled [])) ∧
    (s.health n = .offline → exec c s = .next (s.answered f .nodeOffline [])) ∧
    (s.health n ≠ .disabled → s.health n ≠ .offline →
      (d.hasData = true → outLen = 0 → exec c s = .next (s.answered f .badValue [])) ∧
      (d.hasData = true → outLen ≠ 0 → d.rest.length ≠ outLen.toNat →
        exec c s = .next (s.answered f .badLength [])) ∧
      (fits → 8 ≤ s.outstanding.length → exec c s = .next (s.answered f .busy [])) ∧
      (fits → s.outstanding.length < 8 → exec c s = .next ({ s.heard with
        queue :=
          if d.urgent then { s.queue with urgent := s.queue.urgent ++ [new] }
          else { s.queue with normal := s.queue.normal ++ [new] }
        images :=
          if d.hasData then bankSet s.images n { s.image n with outSet := true, outData := d.rest }
          else s.images } : State).follow))

/-- PASS and PROBE: refused by the first check of R84 that fails (of the two of step 5 SAFE first, the model's
choice, log entry 35); and else a new entry of their kind, a PASS
entry with a copy of the request's bytes, at the tail of the class the URGENT flag selects, with the tag and its
expiry time, and no reply yet. A PROBE is taken for an OFFLINE node. Nothing else changes, and the arbitration
that is due follows in the event (R84, R86, R119, R121). -/
def Obligations.PassAndProbeMakeEntries : Prop :=
  ∀ (s : State) (addr tag : Byte) (payload : List Byte) (d : DemandFields),
    let f : UpFrame := ⟨addr, 0x13, tag, payload⟩
    let g : UpFrame := ⟨addr, 0x14, tag, payload⟩
    let n := addr.toNat
    let slot : TagSlot := ⟨tag, d.deadline.map fun h => s.now + h.toNat⟩
    let locked : Prop := s.bulk.node = some n ∧ s.bulk.state.active = true
    let enqueued (k : EntryKind) : State := { s.heard with queue :=
      if d.urgent then { s.queue with urgent := s.queue.urgent ++ [⟨k, n, [slot], 0, .queued⟩] }
      else { s.queue with normal := s.queue.normal ++ [⟨k, n, [slot], 0, .queued⟩] } }
    s.txSettled = true → s.decided = true →
    (s.accepts f = true → Command.pass.demandFields payload = some d →
      let c : Instr := .pass addr tag payload
      (s.health n = .disabled → exec c s = .next (s.answered f .nodeDisabled [])) ∧
      (s.health n = .offline → exec c s = .next (s.answered f .nodeOffline [])) ∧
      (s.health n ≠ .disabled → s.health n ≠ .offline →
        (s.sched.safe = true → exec c s = .next (s.answered f .safeState [])) ∧
        (s.sched.safe = false → locked → exec c s = .next (s.answered f .bulkBusy [])) ∧
        (s.sched.safe = false → ¬ locked → 8 ≤ s.outstanding.length →
          exec c s = .next (s.answered f .busy [])) ∧
        (s.sched.safe = false → ¬ locked → s.outstanding.length < 8 →
          exec c s = .next (enqueued (.pass d.rest)).follow))) ∧
    (s.accepts g = true → Command.probe.demandFields payload = some d →
      let c : Instr := .probe addr tag payload
      (s.health n = .disabled → exec c s = .next (s.answered g .nodeDisabled [])) ∧
      (s.health n ≠ .disabled → 8 ≤ s.outstanding.length → exec c s = .next (s.answered g .busy [])) ∧
      (s.health n ≠ .disabled → s.outstanding.length < 8 → exec c s = .next (enqueued .probe).follow))

/-- CANCEL: a target held by a queued entry is removed alone, the entry with its last tag, and answered
CANCELLED before the CANCEL's own OK; a target held by an entry in flight is NOT_CANCELLABLE; any other is
UNKNOWN_TAG. Nothing else changes (R94). DEADLINE_EXPIRY completes for a tag of a queued entry whose expiry time
has come: the tag is removed alone, the entry with its last tag, and answered EXPIRED with no content; nothing
else changes but an IDLE transmitter taking the reply, and what is then due, which in a reached state is nothing
(R93, R121, R171). -/
def Obligations.CancelAndDeadlineRemoveOneTag : Prop :=
  (∀ (s : State) (tag target : Byte), let f : UpFrame := ⟨0, 0x46, tag, [target]⟩
      let c : Instr := .cancel tag [target]
      let drop (l : List Entry) : List Entry :=
        (l.map fun x => { x with tags := x.tags.filter fun t => t.tag != target }).filter fun x => !x.tags.isEmpty
      s.accepts f = true → s.txSettled = true → s.decided = true →
      (target ∉ s.outstanding → exec c s = .next (s.answered f .unknownTag [])) ∧
      (∀ e, s.queue.entries.find? (fun x => x.tags.any fun t => t.tag == target) = some e →
        (e.phase ≠ .queued → exec c s = .next (s.answered f .notCancellable [])) ∧
        (e.phase = .queued → exec c s = .next ({ s.answered f .ok [] with
          queue := ⟨drop s.queue.urgent, drop s.queue.normal⟩
          link := { (s.answered f .ok []).link with replies := s.link.replies ++
            [⟨natByte e.node ||| 0x80, e.kind.command.code ||| 0x80, target, [0x31]⟩,
              ⟨0x80, 0xC6, tag, [0x00]⟩] } } : State).follow))) ∧
  (∀ (s : State) (tag : Byte) (e : Entry),
      let drop (l : List Entry) : List Entry :=
        (l.map fun x => { x with tags := x.tags.filter fun t => t.tag != tag }).filter fun x => !x.tags.isEmpty
      s.resetAsserted = false → s.txSettled = true →
      s.queue.entries.find? (fun x => x.tags.any fun t => t.tag == tag) = some e → e.phase = .queued →
      (∃ x t, x ∈ e.tags ∧ x.tag = tag ∧ x.expiry = some t ∧ t ≤ s.now) →
      exec (.deadlineExpiry tag) s = .next ({ s with
        queue := ⟨drop s.queue.urgent, drop s.queue.normal⟩
        link := { s.link with
          replies := s.link.replies ++
            [⟨natByte e.node ||| 0x80, e.kind.command.code ||| 0x80, tag, [0x30]⟩]
          tx := if s.link.tx = .idle then .sendingReply else s.link.tx
          replyRun := if s.link.tx = .idle then min 4 (s.link.replyRun + 1) else s.link.replyRun } } : State).follow)

/-! ### Bulk commands -/

/-- BULK_OPEN: BULK_ACTIVE while a transfer is active, NODE_DISABLED for a DISABLED node, and else OK with a new
record in FILLING: the buffer all 0, the segment count the length over 32 rounded up, the counts 0, a DETACHED
segment phase and the cancel record kept (R102). BULK_STATUS is answered OK in every state with the transfer
record, an absent field as 0. BULK_CLEAR in FILLING and ENDED is answered OK and takes the record to EMPTY, the
buffer all 0, with the cancel record and a DETACHED segment phase kept; in any other state it is answered
WRONG_STATE (R118, Table 11-4). Nothing else changes but what hearing and answering a frame changes, and what is
then due, which in a reached state is nothing. -/
def Obligations.BulkOpenStatusAndClear : Prop :=
  (∀ (s : State) (tag node hi lo : Byte), let f : UpFrame := ⟨0, 0x50, tag, [node, hi, lo]⟩
        let c : Instr := .bulkOpen tag [node, hi, lo]
        let length := (hi ++ lo : BitVec 16).toNat
        s.accepts f = true → s.txSettled = true → s.decided = true →
        (s.bulk.state.active = true → exec c s = .next (s.answered f .bulkActive [])) ∧
        (s.bulk.state.active = false → s.health node.toNat = .disabled →
          exec c s = .next (s.answered f .nodeDisabled [])) ∧
        (s.bulk.state.active = false → s.health node.toNat ≠ .disabled →
          exec c s = .next ({ s.answered f .ok [] with bulk :=
            { state := .filling
              node := some node.toNat
              declared := some length
              filled := 0
              segCount := (length + 31) / 32
              nextIndex := 0
              acked := 0
              attempts := 0
              busy := 0
              segPhase := if s.bulk.segPhase = .detached then .detached else .none
              buffer := []
              cancel := s.bulk.cancel
              cancelOnLine := s.bulk.cancelOnLine } } : State).follow)) ∧
  (∀ (s : State) (tag : Byte),
        let f : UpFrame := ⟨0, 0x56, tag, []⟩
        let g : UpFrame := ⟨0, 0x57, tag, []⟩
        let b := s.bulk
        s.txSettled = true → s.decided = true →
        (s.accepts f = true → exec (.bulkStatus tag []) s = .next (s.answered f .ok (
          [b.state.code, natByte (b.node.getD 0)] ++ natHalf (b.declared.getD 0) ++ natHalf b.filled
            ++ [natByte b.segCount, natByte b.nextIndex, natByte b.acked, natByte b.attempts, natByte b.busy,
                b.segPhase.code]
            ++ (match b.state with
              | .suspended .user => [1, 0, 0]
              | .suspended .safe => [2, 0, 0]
              | .ended .done => [0, 1, 0]
              | .ended (.failed r) => [0, 2, r.code]
              | .ended .aborted => [0, 3, 0]
              | _ => [0, 0, 0])
            ++ [if b.cancel.isSome then 1 else 0]))) ∧
        (s.accepts g = true →
          (b.state = .filling ∨ (∃ o, b.state = .ended o) → exec (.bulkClear tag []) s =
            .next ({ s.answered g .ok [] with bulk :=
              { state := .empty, node := none, declared := none, filled := 0, segCount := 0, nextIndex := 0
                acked := 0, attempts := 0, busy := 0
                segPhase := if b.segPhase = .detached then .detached else .none
                buffer := [], cancel := b.cancel, cancelOnLine := b.cancelOnLine } } : State).follow) ∧
          (b.state ≠ .filling → (∀ o, b.state ≠ .ended o) → exec (.bulkClear tag []) s =
            .next (s.answered g .wrongState []))))

/-- BULK_DATA: a byte count outside 1 to 240 is BAD_LENGTH at the link port; then WRONG_STATE outside FILLING,
OUT_OF_ORDER at an offset other than the filled count, BAD_LENGTH beyond the declared length, none of them
writing or counting; and else OK, the bytes written into the buffer from the offset onward, every other byte of
the buffer as before, and the filled count increased by their number (R103). (No frame is long enough for more
than 238 bytes, R165.) -/
def Obligations.BulkDataFillsTheBuffer : Prop :=
  ∀ (s : State) (tag hi lo : Byte) (data : List Byte),
    let f : UpFrame := ⟨0, 0x51, tag, hi :: lo :: data⟩
    let c : Instr := .bulkData tag (hi :: lo :: data)
    let offset := (hi ++ lo : BitVec 16).toNat
    s.bulk.sound = true → s.txSettled = true → s.decided = true →
    (s.dispatches f = true → offset ≤ 511 → data.length < 1 ∨ 240 < data.length →
      exec c s = .next { s.answered f .badLength [] with choices := s.choices + 1 }) ∧
    (s.accepts f = true →
      (s.bulk.state ≠ .filling → exec c s = .next (s.answered f .wrongState [])) ∧
      (s.bulk.state = .filling → offset ≠ s.bulk.filled →
        exec c s = .next (s.answered f .outOfOrder [])) ∧
      (∀ n, s.bulk.state = .filling → offset = s.bulk.filled → s.bulk.declared = some n →
        (n < s.bulk.filled + data.length → exec c s = .next (s.answered f .badLength [])) ∧
        (s.bulk.filled + data.length ≤ n → ∃ buffer,
          exec c s = .next { s.answered f .ok [] with bulk :=
            { s.bulk with filled := s.bulk.filled + data.length, buffer := buffer } } ∧
          ∀ a, Memory.read buffer a =
            if offset ≤ a ∧ a < offset + data.length then data.getD (a - offset) 0
            else s.bulk.buffer.read a)))

/-- BULK_START: refused by the first row of R104 that holds, the transfer left as it was, and else ACCEPTED with
the transfer RUNNING, its counts 0 and its segment phase as it stood; nothing else changes, and the arbitration
that is due follows in the event (R104, R119, R121). -/
def Obligations.BulkStartRunsTheTransfer : Prop :=
  ∀ (s : State) (tag : Byte) (n declared : Nat), let f : UpFrame := ⟨0, 0x52, tag, []⟩
    let c : Instr := .bulkStart tag []
    let held : Prop := ∃ e ∈ s.queue.entries, e.kind.isPass = true ∧ e.node = n
    s.accepts f = true → s.txSettled = true → s.decided = true →
    (s.bulk.state ≠ .filling → exec c s = .next (s.answered f .wrongState [])) ∧
    (s.bulk.state = .filling → s.bulk.node = some n → s.bulk.declared = some declared →
      (s.bulk.filled < declared → exec c s = .next (s.answered f .incomplete [])) ∧
      (declared ≤ s.bulk.filled →
        (s.health n = .disabled → exec c s = .next (s.answered f .nodeDisabled [])) ∧
        (s.health n = .offline → exec c s = .next (s.answered f .nodeOffline [])) ∧
        (s.health n ≠ .disabled → s.health n ≠ .offline →
          (held → exec c s = .next (s.answered f .nodeBusy [])) ∧
          (¬ held → s.sched.safe = true → exec c s = .next (s.answered f .safeState [])) ∧
          (¬ held → s.sched.safe = false → exec c s = .next ({ s.answered f .accepted [] with bulk :=
            { s.bulk with state := .running, nextIndex := 0, acked := 0, attempts := 0, busy := 0 } } : State).follow))))

/-- BULK_SUSPEND: OK in RUNNING and WAITING with the transfer SUSPENDED, cause USER, and WRONG_STATE in any
other state. BULK_RESUME: WRONG_STATE outside SUSPENDED, SAFE_STATE while SAFE is on, and else OK with the
transfer RUNNING. A backoff and a suspend cause go with their states; nothing else of the record, and nothing
else, changes (R111, R112). BACKOFF_EXPIRY completes in WAITING once the backoff's time has come: the transfer
is RUNNING again, the rest of its record and everything else as before (R109). The arbitration that is due after
BULK_RESUME and the expiry follows in the event (R121). -/
def Obligations.BulkSuspendResumeAndBackoff : Prop :=
  (∀ (s : State) (tag : Byte),
      let f : UpFrame := ⟨0, 0x53, tag, []⟩
      let g : UpFrame := ⟨0, 0x54, tag, []⟩
      s.txSettled = true → s.decided = true →
      (s.accepts f = true →
        (s.bulk.state = .running ∨ (∃ t, s.bulk.state = .waiting t) → exec (.bulkSuspend tag []) s =
          .next { s.answered f .ok [] with bulk := { s.bulk with state := .suspended .user } }) ∧
        (s.bulk.state ≠ .running → (∀ t, s.bulk.state ≠ .waiting t) → exec (.bulkSuspend tag []) s =
          .next (s.answered f .wrongState []))) ∧
      (s.accepts g = true →
        ((∀ cause, s.bulk.state ≠ .suspended cause) → exec (.bulkResume tag []) s =
          .next (s.answered g .wrongState [])) ∧
        (∀ cause, s.bulk.state = .suspended cause →
          (s.sched.safe = true → exec (.bulkResume tag []) s = .next (s.answered g .safeState [])) ∧
          (s.sched.safe = false → exec (.bulkResume tag []) s =
            .next ({ s.answered g .ok [] with bulk := { s.bulk with state := .running } } : State).follow)))) ∧
  (∀ (s : State) (t : Nat), s.bulk.state = .waiting t → t ≤ s.now →
      exec .backoffExpiry s = .next ({ s with bulk := { s.bulk with state := .running } } : State).close)

/-- BULK_ABORT: WRONG_STATE in EMPTY and ENDED; in FILLING OK, ENDED ABORTED and no notice; in RUNNING, WAITING
and SUSPENDED OK, ENDED ABORTED, a segment on the line DETACHED and a pending retry dropped, BULK_END offered
with node, outcome and acked count, and a cancel pending for the node and the next index exactly when a segment
has been acknowledged or is on the line or awaits its retry, and the node is not OFFLINE (a cancel pending
already stays otherwise, log entry 30); the buffer, the line, the tables, the nodes and the requests stay, and
the cancel's arbitration, where it is due, follows in the event (R114, R117, R121). -/
def Obligations.BulkAbortEndsTheTransfer : Prop :=
  ∀ (s : State) (tag : Byte) (n : Nat), let f : UpFrame := ⟨0, 0x55, tag, []⟩
    let c : Instr := .bulkAbort tag []
    let reached : Prop := 1 ≤ s.bulk.acked ∨ s.bulk.segPhase = .onLine ∨ s.bulk.segPhase = .retryPending
    s.accepts f = true →
    (s.txSettled = true → s.decided = true → s.bulk.state = .empty ∨ (∃ o, s.bulk.state = .ended o) →
      exec c s = .next (s.answered f .wrongState [])) ∧
    (s.txSettled = true → s.decided = true → s.bulk.state = .filling →
      exec c s = .next { s.answered f .ok [] with bulk := { s.bulk with state := .ended .aborted } }) ∧
    (s.bulk.state.active = true → s.bulk.node = some n → ∃ t : State, exec c s = .next t.close ∧
      t.bulk = { s.bulk with
        state := .ended .aborted
        segPhase := match s.bulk.segPhase with
          | .onLine => .detached
          | .retryPending => .none
          | p => p
        cancel := t.bulk.cancel } ∧
      (reached → s.health n ≠ .offline → t.bulk.cancel = some (n, s.bulk.nextIndex)) ∧
      (¬ reached ∨ s.health n = .offline → t.bulk.cancel = s.bulk.cancel) ∧
      t.link.replies = s.link.replies ++ [⟨0x80, 0xD5, tag, [0x00]⟩] ∧
      t.notices = s.notices.offer (.bulkEnd n .aborted s.bulk.acked) ∧
      t.line = s.line ∧ t.sched = s.sched ∧ t.nodes = s.nodes ∧ t.images = s.images ∧ t.queue = s.queue ∧
      t.tables = s.tables ∧ t.now = s.now ∧ t.resetAsserted = s.resetAsserted ∧ t.upStrap = s.upStrap ∧
      t.downStrap = s.downStrap ∧ t.pending = s.pending)

/-- The outcomes of a data segment of a RUNNING or SUSPENDED transfer: SEG_ACK moves on, and ends the transfer
DONE at the last segment; SEG_NAK BUSY counts, backs off where RUNNING, consumes no attempt, and ends the
transfer NODE_BUSY at the eighth; REJECT and ERROR end it; a failure awaits a retry while one is wanted and else
ends it LINE_FAILURE, or NODE_OFFLINE where it takes the node OFFLINE; each end offers BULK_END with node,
outcome and acked count, after a HEALTH notice of the same outcome (R44, R45, R107, R108, R110, R116, R117,
R127). An outcome of a DETACHED segment clears the segment phase alone, and the cancel frame's outcome clears
the cancel-on-line flag alone; both count for the node's health and do nothing else to the transfer (R110,
R115). -/
def Obligations.SegmentOutcomesMoveTheTransfer : Prop :=
  ∀ (s : State) (o : Order) (i n : Nat) (last cancel : Bool) (data : List Byte) (code : Byte) (k : FailKind)
    (x : LineOutcome),
    let b := s.bulk
    let after (x : LineOutcome) (b' : Bulk) (q : NoticeQueue) : Prop :=
      (s.deliver o false x).bulk = b' ∧ (s.deliver o false x).notices = q
    let fail := if (s.node n).failCount = (s.cfg n).offlineThreshold.toNat then (s.node n).failCount
      else (s.node n).failCount + 1
    let enters : Prop := s.health n ≠ .offline ∧ s.health n ≠ .disabled ∧ (s.cfg n).offlineThreshold.toNat ≤ fail
    let wanted : Prop := b.attempts < 1 + (s.cfg n).retryLimit.toNat ∧ ¬ enters
    let told : NoticeQueue :=
      if s.health n = .probing ∨ s.health n = .offline then s.notices.offer (.health n 0) else s.notices
    let ended (x : BulkOutcome) (acked : Nat) (q : NoticeQueue) : NoticeQueue := q.offer (.bulkEnd n x acked)
    o.owner = .bulk → o.request = .segment i last cancel data → o.addr = n →
    (b.node = some n → cancel = false → b.cancelOnLine = false → b.segPhase = .onLine →
      b.state = .running ∨ (∃ c, b.state = .suspended c) →
      (last = false → after (.replied .segAck)
        { b with acked := b.acked + 1, nextIndex := i + 1, attempts := 0, busy := 0, segPhase := .none } told) ∧
      (last = true → after (.replied .segAck)
        { b with
          acked := b.acked + 1, nextIndex := i + 1, attempts := 0, busy := 0, segPhase := .none
          state := .ended .done } (ended .done (b.acked + 1) told)) ∧
      (b.busy < 7 → after (.replied .segNakBusy) { b with
        busy := b.busy + 1
        segPhase := .none
        attempts := 0
        state := if b.state = .running then .waiting (s.now + s.tables.active.line.bulkBackoff.toNat)
          else b.state } told) ∧
      (7 ≤ b.busy → after (.replied .segNakBusy)
        { b with busy := b.busy + 1, segPhase := .none, state := .ended (.failed .nodeBusy) }
        (ended (.failed .nodeBusy) b.acked told)) ∧
      after (.replied .segNakReject) { b with segPhase := .none, state := .ended (.failed .rejected) }
        (ended (.failed .rejected) b.acked told) ∧
      after (.nodeError code) { b with segPhase := .none, state := .ended (.failed .nodeError) }
        (ended (.failed .nodeError) b.acked told) ∧
      (wanted → after (.failure k) { b with segPhase := .retryPending } s.notices) ∧
      (¬ wanted → ¬ enters → after (.failure k)
        { b with segPhase := .none, state := .ended (.failed .lineFailure) }
        (ended (.failed .lineFailure) b.acked s.notices)) ∧
      (enters → after (.failure k) { b with segPhase := .none, state := .ended (.failed .nodeOffline) }
        (ended (.failed .nodeOffline) b.acked (s.notices.offer (.health n 0))))) ∧
    (b.cancelOnLine = true → b.state.active = false ∨ x.isFailure = false ∨ ¬ enters →
      (s.deliver o false x).bulk = { b with cancelOnLine := false }) ∧
    (b.cancelOnLine = false → b.segPhase = .detached → b.state.active = false ∨ x.isFailure = false ∨ ¬ enters →
      (s.deliver o false x).bulk = { b with segPhase := .none })

/-! ### Notices and the transmitter -/

/-- An offered notice joins the waiting notice of its kind and node that it may join, raising its missed or
transitions count by 1 up to 255, and keeps the depth; else, below 24 notices, it is appended at the tail; else
it is lost, the lost count one higher up to 255, and the overflow-pending flag set if no OVERFLOW waits. The
notice in flight and the sequence stay (R142 to R144). -/
def Obligations.OffersJoinAppendOrAreLost : Prop :=
  ∀ (q : NoticeQueue) (before after : List Notice) (n : Nat) (count : Byte) (offer : Notice),
    let free (k : Notice) : Prop := ∀ w ∈ q.waiting, w.key ≠ k.key
    let up : Byte := if count = 255 then 255 else count + 1
    (q.waiting = before ++ .change n count :: after → (∀ w ∈ before, w.key ≠ some (2, n)) →
      q.offer (.change n 0) = { q with waiting := before ++ .change n up :: after }) ∧
    (q.waiting = before ++ .health n count :: after → (∀ w ∈ before, w.key ≠ some (3, n)) →
      q.offer (.health n 0) = { q with waiting := before ++ .health n up :: after }) ∧
    (.attention n ∈ q.waiting → q.offer (.attention n) = q) ∧
    (.cycleOverrun ∈ q.waiting → q.offer .cycleOverrun = q) ∧
    (offer ≠ .overflow → offer.key = none ∨ free offer →
      (q.inFlight.toList.length + q.waiting.length < 24 →
        q.offer offer = { q with waiting := q.waiting ++ [offer] }) ∧
      (24 ≤ q.inFlight.toList.length + q.waiting.length →
        q.offer offer = { q with
          lost := if q.lost = 255 then 255 else q.lost + 1
          overflowPending := q.overflowPending || !q.waiting.contains .overflow }))

/-- NOTICE_ACK: STALE_ACK, changing nothing, with no notice in flight or another sequence; and else OK with the
notice removed, its resend timer with it, the lost count lower by what a removed OVERFLOW carried, and an
OVERFLOW appended at the tail if overflow-pending is set, which is then clear; a transmitter that is not IDLE
goes on, an IDLE one may take the reply or the next notice first (R146, R148, R171; log entry 12).
NOTICE_RESEND_TIMER_EXPIRY completes once the timer's time has come: the notice in flight is ready for a resend
and the timer stopped; an IDLE transmitter with no reply queued and no restart pending resends it at once, with
the same content and sequence, and the timer starts again; nothing else changes (R147, R171). -/
def Obligations.NoticeAckAndResendTimer : Prop :=
  (∀ (s : State) (tag sequence : Byte), let f : UpFrame := ⟨0, 0x47, tag, [sequence]⟩
        let c : Instr := .noticeAck tag [sequence]
        let q := s.notices
        let removed (g : InFlight) : NoticeQueue :=
          { inFlight := none
            waiting := q.waiting ++ (if q.overflowPending then [.overflow] else [])
            sequence := q.sequence
            lost := q.lost - (match g.content with | .overflow l => l | _ => 0)
            overflowPending := false }
        s.accepts f = true →
        (s.txSettled = true → s.decided = true → q.inFlight = none → exec c s = .next (s.answered f .staleAck [])) ∧
        (∀ g, q.inFlight = some g →
          (s.txSettled = true → s.decided = true → g.sequence ≠ sequence → exec c s = .next (s.answered f .staleAck [])) ∧
          (g.sequence = sequence → s.link.tx ≠ .idle → s.decided = true →
            exec c s = .next { s.answered f .ok [] with notices := removed g }) ∧
          (g.sequence = sequence → ∃ t : State, exec c s = .next t.follow ∧
            t.link.replies = s.link.replies ++ [⟨0x80, 0xC7, tag, [0x00]⟩] ∧
            (t.notices = removed g ∨ ∃ w rest, (removed g).waiting = w :: rest ∧ t.notices = { removed g with
              inFlight := some ⟨({ s with notices := removed g } : State).fixNotice w, q.sequence,
                some (s.now + s.tables.active.line.noticeResend.toNat)⟩
              waiting := rest
              sequence := q.sequence + 1 }) ∧
            t.line = s.line ∧ t.sched = s.sched ∧ t.nodes = s.nodes ∧ t.images = s.images ∧ t.queue = s.queue ∧
            t.bulk = s.bulk ∧ t.tables = s.tables ∧ t.now = s.now ∧ t.resetAsserted = s.resetAsserted ∧
            t.upStrap = s.upStrap ∧ t.downStrap = s.downStrap ∧ t.pending = s.pending))) ∧
  (∀ (s : State) (g : InFlight) (t : Nat), s.notices.inFlight = some g → g.resend = some t → t ≤ s.now →
        (s.link.tx ≠ .idle → exec .noticeResendTimerExpiry s =
          .next { s with notices := { s.notices with inFlight := some { g with resend := none } } }) ∧
        (s.link.tx = .idle → s.resetAsserted = false → s.link.restartPending = none → s.link.replies = [] →
          exec .noticeResendTimerExpiry s = .next { s with
            notices := { s.notices with inFlight := some { g with
              resend := some (s.now + s.tables.active.line.noticeResend.toNat) } }
            link := { s.link with
              tx := .sendingNotice ⟨0x80, 0xE0, g.sequence, g.content.payload⟩, replyRun := 0 } }))

/-- UPSTREAM_FRAME_SENT, but for the end of the RESTART_WARM reply: the frame is counted as sent, a reply's slot
becomes free, and the transmitter takes its next frame: a ready notice where no reply is queued or four replies
have gone since the last notice, else the oldest reply, else nothing with the run counter 0. A notice taken for
its first send gets the next sequence and its at-send fields fixed, a resend keeps both, and the resend timer
starts (R145, R147, R171, R173, R174). -/
def Obligations.FrameEndTakesTheNextFrame : Prop :=
  ∀ (s : State) (u : State),
    ((s.link.tx = .sendingReply ∧ s.link.restartPending ≠ some 1 ∧ u = { s with link := { s.link with
        replies := s.link.replies.drop 1
        restartPending := s.link.restartPending.map (· - 1)
        counters := { s.link.counters with repliesSent := satInc s.link.counters.repliesSent } } }) ∨
      ((∃ g, s.link.tx = .sendingNotice g) ∧ u = { s with link := { s.link with
        counters := { s.link.counters with noticesSent := satInc s.link.counters.noticesSent } } })) →
    let timer : Option Nat := some (s.now + s.tables.active.line.noticeResend.toNat)
    let noticeFirst : Prop := u.link.restartPending = none ∧ (u.link.replies = [] ∨ u.link.replyRun = 4)
    let sending (g : InFlight) : LinkPort :=
      { u.link with tx := .sendingNotice ⟨0x80, 0xE0, g.sequence, g.content.payload⟩, replyRun := 0 }
    (noticeFirst → ∀ w rest, s.notices.inFlight = none → s.notices.waiting = w :: rest →
      let g : InFlight := ⟨match w with
        | .restart r => .restart r
        | .change n missed => .change n (s.image n).sequence missed
        | .health n transitions => .health n (s.health n) transitions
        | .attention n => .attention n
        | .bulkEnd n o acked => .bulkEnd n o acked
        | .commitApplied generation => .commitApplied generation
        | .cycleOverrun => .cycleOverrun s.sched.overrun
        | .safeEntered => .safeEntered
        | .overflow => .overflow s.notices.lost, s.notices.sequence, timer⟩
      exec .upstreamFrameSent s = .next { u with
        link := sending g
        notices := { s.notices with
          inFlight := some g, waiting := rest, sequence := s.notices.sequence + 1 } }) ∧
    (noticeFirst → ∀ g, s.notices.inFlight = some g → g.resend = none →
      exec .upstreamFrameSent s = .next { u with
        link := sending g
        notices := { s.notices with inFlight := some { g with resend := timer } } }) ∧
    (¬ (noticeFirst ∧ s.notices.ready = true) → u.link.replies ≠ [] →
      exec .upstreamFrameSent s = .next { u with link := { u.link with
        tx := .sendingReply, replyRun := min 4 (u.link.replyRun + 1) } }) ∧
    (¬ (noticeFirst ∧ s.notices.ready = true) → u.link.replies = [] →
      exec .upstreamFrameSent s = .next { u with link := { u.link with tx := .idle, replyRun := 0 } })

/-! ### The line controller -/

/-- The check pair is two running sums modulo 255 over the bytes from ADDR through the last payload byte, both
from 0, A sent first; both lie in 0 to 254; a frame is the SYNC byte, those bytes and the pair; and a received
reply whose two check bytes are not the pair is BAD_CHECK, whatever else it holds (R22). -/
def Obligations.CheckPairIsTheTwoSums : Prop :=
  checkPair [] = (0, 0) ∧
  (∀ (bytes : List Byte) (b : Byte),
    let p := checkPair bytes
    let q := checkPair (bytes ++ [b])
    q.1.toNat = (p.1.toNat + b.toNat) % 255 ∧ q.2.toNat = (p.2.toNat + q.1.toNat) % 255) ∧
  (∀ bytes : List Byte, (checkPair bytes).1.toNat ≤ 254 ∧ (checkPair bytes).2.toNat ≤ 254) ∧
  (∀ (addr kind : Byte) (payload : List Byte),
    let covered := addr :: kind :: natByte payload.length :: payload
    downFrame addr kind payload = 0xC6 :: (covered ++ [(checkPair covered).1, (checkPair covered).2])) ∧
  (∀ (f : UpFrame),
    let covered := natByte (3 + f.payload.length) :: f.addr :: f.cmd :: f.tag :: f.payload
    f.bytes = 0x5A :: (covered ++ [(checkPair covered).1, (checkPair covered).2])) ∧
  (∀ (cfg : NodeConfig) (o : Order) (addr kind len a b : Byte) (payload : List Byte),
    let covered := addr :: kind :: len :: payload
    judgeReply cfg o (covered ++ [a, b]) = .failure .badCheck ↔
      a ≠ (checkPair covered).1 ∨ b ≠ (checkPair covered).2)

/-- An order accepted in IDLE waits for the end of a character in progress, or for the rest of down_gap ticks of
quiet, or begins SENDING at once when the line has been quiet long enough; nothing else changes (R28; log
entries 19 and 20). GAP_TIMER_EXPIRY completes in GAP_WAIT once the gap timer's time has come: SENDING begins;
nothing else changes (R29). In both the frame is built from the order and the state of that moment, whether it
carries an output block is noted, and the direction is transmit (R30). The frame is of the order's kind, an
EXCHANGE carrying the output block exactly when output_len is above 0, the record is set and SAFE is off (R21 to
R23, R30, R75, R178). -/
def Obligations.OrdersWaitOutTheGap : Prop :=
  ∀ (s : State) (o : Order),
    let quiet := s.line.quietSince + s.tables.active.line.downGap.toNat
    let sending : State := { s with line := { s.line with
      phase := .sending o (s.buildFrame o) (s.blockFor o).isSome, direction := .transmit } }
    (s.line.phase = .idle →
      (s.line.charIn = true ∨ s.line.cutChar = true →
        s.acceptOrder o = { s with line := { s.line with phase := .gapWait o none } }) ∧
      (s.line.charIn = false → s.line.cutChar = false → s.now < quiet →
        s.acceptOrder o = { s with line := { s.line with phase := .gapWait o (some quiet) } }) ∧
      (s.line.charIn = false → s.line.cutChar = false → quiet ≤ s.now → s.acceptOrder o = sending)) ∧
    (∀ t, s.line.phase = .gapWait o (some t) → t ≤ s.now → exec .gapTimerExpiry s = .next sending) ∧
    (let supplied : Bool := (s.cfg o.addr).outputLen != 0 && (s.image o.addr).outSet && !s.sched.safe
      let framed (kind : Byte) (payload : List Byte) : List Byte :=
        let covered := natByte o.addr :: kind :: natByte payload.length :: payload
        0xC6 :: (covered ++ [(checkPair covered).1, (checkPair covered).2])
      (o.request = .exchange → supplied = true → s.blockFor o = some (s.image o.addr).outData ∧
        s.buildFrame o = framed 0x01 (0x00 :: (s.image o.addr).outData)) ∧
      (o.request = .exchange → supplied = false → s.blockFor o = none ∧ s.buildFrame o = framed 0x01 [0x01]) ∧
      (o.request ≠ .exchange → s.blockFor o = none) ∧
      (o.request = .status → s.buildFrame o = framed 0x02 []) ∧
      (∀ bytes, o.request = .pass bytes → s.buildFrame o = framed 0x03 bytes) ∧
      (∀ i last cancel data, o.request = .segment i last cancel data → s.buildFrame o =
        framed 0x04 (natByte i ::
          ((if last then (0x01 : Byte) else 0) ||| (if cancel then 0x02 else 0)) :: data)) ∧
      (o.request = .safe → s.buildFrame o = framed 0x0F []))

/-- LAST_CHARACTER_SENT in SENDING: the direction is receive, quiet is measured from here, the frame is counted
as sent, and a SAFE frame as a broadcast too; the controller is IDLE after a SAFE frame and else AWAITING with
the node's reply_timeout running. Outside SENDING it is the end of the character a warm restart cut a frame
after: quiet is measured from here and an order in GAP_WAIT gets its full gap. Nothing else changes, and what is
due at the return to IDLE follows in the event (R27, R31, R37, R39, R121, R161; log entry 19). -/
def Obligations.LastCharacterEndsTheFrame : Prop :=
  ∀ (s : State) (o : Order) (frame : List Byte) (output : Bool),
    let sent (phase : LinePhase) (broadcast : Bool) : State := { s with line := { s.line with
      phase := phase
      direction := .receive
      quietSince := s.now
      counters := { s.line.counters with
        framesSent := satInc s.line.counters.framesSent
        broadcastsSent := if broadcast then satInc s.line.counters.broadcastsSent
          else s.line.counters.broadcastsSent } } }
    let cut (phase : LinePhase) : State := { s with line := { s.line with
      phase := phase, cutChar := false, quietSince := s.now } }
    (s.line.phase = .sending o frame output → o.request = .safe →
      exec .lastCharacterSent s = .next (sent .idle true).close) ∧
    (s.line.phase = .sending o frame output → o.request ≠ .safe → exec .lastCharacterSent s =
      .next (sent (.awaiting o output (s.now + (s.cfg o.addr).replyTimeout.toNat)) false)) ∧
    (s.line.phase = .idle → s.line.cutChar = true → exec .lastCharacterSent s = .next (cut .idle)) ∧
    (s.line.phase = .gapWait o none → s.line.cutChar = true → s.line.charIn = true →
      exec .lastCharacterSent s = .next (cut (.gapWait o none))) ∧
    (s.line.phase = .gapWait o none → s.line.cutChar = true → s.line.charIn = false →
      exec .lastCharacterSent s =
        .next (cut (.gapWait o (some (s.now + s.tables.active.line.downGap.toNat)))))

/-- A received character: its start stops the gap timer in GAP_WAIT and the inter-byte timer in RECEIVING and
DRAINING, and no other timer, and is noted as foreign where it falls in SENDING; its arrival as a stray byte,
any value in IDLE, GAP_WAIT and SENDING, and in AWAITING any but 0xC6, or any at all of a character that started
in SENDING, is counted, starts the gap timer of GAP_WAIT again in full (while a character that a warm restart
cut a frame after is still being sent the timer stays stopped, log entry 19), and leaves the reply timer
running; quiet is measured from the arrival; nothing else changes (R27 to R30, R32 to R34, R37).
REPLY_SYNC_ARRIVAL in AWAITING begins RECEIVING with the inter-byte timer at 10 ticks, but where its character
started in SENDING the byte is counted stray like any other (R30, log entry 16); REPLY_BYTE_COLLECTED in
RECEIVING collects a byte before the second check byte and restarts the timer, a third byte (LEN) above 40 going
to DRAINING instead; in DRAINING a byte restarts the timer. Quiet is measured from each arrival; nothing else
changes (R27, R32 to R34). -/
def Obligations.DownstreamCharactersAreTaken : Prop :=
  (∀ (s : State) (byte : Byte) (o : Order) (output : Bool) (got frame : List Byte) (gap : Option Nat) (t : Nat),
      s.resetAsserted = false →
      let begun (phase : LinePhase) (foreign : Bool) : State := { s with line := { s.line with
        phase := phase, charIn := true, charForeign := foreign } }
      let started (phase : LinePhase) : State := begun phase false
      let stray (phase : LinePhase) : State := { s with line := { s.line with
        phase := phase
        charIn := false
        charForeign := false
        quietSince := s.now
        counters := { s.line.counters with strayBytes := satInc s.line.counters.strayBytes } } }
      let full : Option Nat := some (s.now + s.tables.active.line.downGap.toNat)
      (s.line.phase = .idle → exec .downstreamCharacterStart s = .next (started .idle) ∧
        exec (.strayByte byte) s = .next (stray .idle)) ∧
      (s.line.phase = .gapWait o gap → exec .downstreamCharacterStart s = .next (started (.gapWait o none)) ∧
        (s.line.cutChar = false → exec (.strayByte byte) s = .next (stray (.gapWait o full))) ∧
        (s.line.cutChar = true → exec (.strayByte byte) s = .next (stray (.gapWait o none)))) ∧
      (s.line.phase = .sending o frame output →
        exec .downstreamCharacterStart s = .next (begun (.sending o frame output) true) ∧
        exec (.strayByte byte) s = .next (stray (.sending o frame output))) ∧
      (s.line.phase = .awaiting o output t →
        exec .downstreamCharacterStart s = .next (started (.awaiting o output t)) ∧
        (byte ≠ 0xC6 ∨ s.line.charForeign = true →
          exec (.strayByte byte) s = .next (stray (.awaiting o output t))) ∧
        (s.line.charForeign = true → exec .replySyncArrival s = .next (stray (.awaiting o output t)))) ∧
      (s.line.phase = .receiving o output got gap →
        exec .downstreamCharacterStart s = .next (started (.receiving o output got none))) ∧
      (s.line.phase = .draining o output gap →
        exec .downstreamCharacterStart s = .next (started (.draining o output none)))) ∧
  (∀ (s : State) (byte addr kind len : Byte) (rest got : List Byte) (o : Order) (output : Bool)
      (timer : Option Nat) (t : Nat),
      s.resetAsserted = false →
      let restarted : Option Nat := some (s.now + 10)
      let arrived (phase : LinePhase) : State := { s with line := { s.line with
        phase := phase, charIn := false, charForeign := false, quietSince := s.now } }
      (s.line.phase = .awaiting o output t → s.line.charForeign = false → exec .replySyncArrival s =
        .next (arrived (.receiving o output [] restarted))) ∧
      (s.line.phase = .receiving o output got timer →
        (got.length ≤ 1 → exec (.replyByteCollected byte) s =
          .next (arrived (.receiving o output (got ++ [byte]) restarted))) ∧
        (got = [addr, kind] → byte.toNat ≤ 40 → exec (.replyByteCollected byte) s =
          .next (arrived (.receiving o output (got ++ [byte]) restarted))) ∧
        (got = [addr, kind] → 40 < byte.toNat → exec (.replyByteCollected byte) s =
          .next (arrived (.draining o output restarted))) ∧
        (got = addr :: kind :: len :: rest → rest.length ≤ len.toNat → exec (.replyByteCollected byte) s =
          .next (arrived (.receiving o output (got ++ [byte]) restarted)))) ∧
      (s.line.phase = .draining o output timer → exec (.replyByteCollected byte) s =
        .next (arrived (.draining o output restarted))))

/-- The verdict on a complete reply with a good check pair, in the order of R35 and by the table of R24:
MALFORMED with the direction bit 0; WRONG_SOURCE from another address; NODE_ERROR for an ERROR of one byte;
REPLIED for the kind and layout the request expects; and MALFORMED for anything else. -/
def Obligations.RepliesAreValidated : Prop :=
  ∀ (cfg : NodeConfig) (o : Order) (addr kind len : Byte) (payload : List Byte),
    let covered := addr :: kind :: len :: payload
    let verdict := judgeReply cfg o (covered ++ [(checkPair covered).1, (checkPair covered).2])
    let inLen := cfg.inputLen.toNat
    (addr.getLsbD 7 = false → verdict = .failure .malformed) ∧
    (addr.getLsbD 7 = true → (addr &&& 0x1F).toNat ≠ o.addr → verdict = .failure .wrongSource) ∧
    (addr.getLsbD 7 = true → (addr &&& 0x1F).toNat = o.addr →
      (∀ code, kind = 0x8E → payload = [code] → verdict = .nodeError code) ∧
      (∀ status block, o.request = .exchange → kind = 0x81 → payload = status :: block → block.length = inLen →
        verdict = .replied (.data status block)) ∧
      (∀ status nodeType, o.request = .status → kind = 0x82 → payload = [status, nodeType] →
        verdict = .replied (.statusReply status nodeType)) ∧
      (∀ sent status bytes, o.request = .pass sent → kind = 0x83 → payload = status :: bytes →
        bytes.length ≤ 32 → verdict = .replied (.passReply status bytes)) ∧
      (∀ i last cancel data, o.request = .segment i last cancel data →
        (kind = 0x84 → payload = [natByte i] → verdict = .replied .segAck) ∧
        (kind = 0x85 → payload = [natByte i, 0x01] → verdict = .replied .segNakBusy) ∧
        (kind = 0x85 → payload = [natByte i, 0x02] → verdict = .replied .segNakReject)) ∧
      (¬ (kind = 0x8E ∧ payload.length = 1) →
        ¬ (o.request = .exchange ∧ kind = 0x81 ∧ payload.length = 1 + inLen) →
        ¬ (o.request = .status ∧ kind = 0x82 ∧ payload.length = 2) →
        ¬ ((∃ sent, o.request = .pass sent) ∧ kind = 0x83 ∧ 1 ≤ payload.length ∧ payload.length ≤ 33) →
        (∀ i last cancel data, o.request = .segment i last cancel data →
          ¬ (kind = 0x84 ∧ payload = [natByte i]) ∧ ¬ (kind = 0x85 ∧ payload = [natByte i, 0x01]) ∧
          ¬ (kind = 0x85 ∧ payload = [natByte i, 0x02])) →
        verdict = .failure .malformed))

/-- REPLY_FRAME_RECEIVED with the second check byte, REPLY_TIMER_EXPIRY and DOWNSTREAM_INTER_BYTE_EXPIRY once
their time has come each end the attempt: the outcome is delivered, and what the return to IDLE makes due
follows in the event. Delivered, the line controller is IDLE with the outcome counted, and the addressed node's
record takes it: attempts and failures counted; fail_count and health by R44 and R45, DISABLED staying (log
entry 28); the node table takes the outcome before the arbitration that follows (log entry 32); the attention
flag by the status byte; the probe countdown loaded at an entry to OFFLINE and 0 at a recovery; no other node's
record changes but for countdowns that the walk of the schedule's own step moves; a DATA reply updates the
node's image, sequence and age, and no other outcome touches an image; an owner other than the schedule leaves
the scheduler as it was, and without an entry to OFFLINE the request queue and the link stay but for a demand
order's own entry, and the transfer but for the bulk unit's own order; the straps, tick time and tables stay
(R26, R32, R34 to R37, R43 to R45, R47, R49, R51, R64, R121). -/
def Obligations.AttemptsEndInAnOutcome : Prop :=
  ∀ (s : State) (c : Instr) (o : Order) (output : Bool) (got : List Byte) (timer : Option Nat) (byte : Byte)
    (e : Nat) (x : LineOutcome) (arrived : Bool),
    ((s.resetAsserted = false ∧ s.line.phase = .receiving o output got timer ∧ replyLastByte got = true ∧
        c = .replyFrameReceived byte ∧ x = judgeReply (s.cfg o.addr) o (got ++ [byte]) ∧ arrived = true) ∨
      (s.line.phase = .awaiting o output e ∧ e ≤ s.now ∧ c = .replyTimerExpiry ∧
        x = .failure .timeout ∧ arrived = false) ∨
      ((s.line.phase = .receiving o output got (some e) ∨ s.line.phase = .draining o output (some e)) ∧
        e ≤ s.now ∧ c = .downstreamInterByteExpiry ∧ x = .failure .malformed ∧ arrived = false)) →
    let ended : State := if arrived then
        { s with line := { s.line with charIn := false, charForeign := false, quietSince := s.now } } else s
    let t := ended.deliver o output x
    exec c s = .next t.close ∧
      t.line = { s.line with
        phase := .idle
        charIn := if arrived then false else s.line.charIn
        charForeign := if arrived then false else s.line.charForeign
        quietSince := if arrived then s.now else s.line.quietSince
        counters := match x with
          | .replied _ => { s.line.counters with replied := satInc s.line.counters.replied }
          | .nodeError _ => { s.line.counters with nodeErrors := satInc s.line.counters.nodeErrors }
          | .failure .timeout => { s.line.counters with timeouts := satInc s.line.counters.timeouts }
          | .failure .badCheck => { s.line.counters with badChecks := satInc s.line.counters.badChecks }
          | .failure .malformed => { s.line.counters with malformed := satInc s.line.counters.malformed }
          | .failure .wrongSource => { s.line.counters with wrongSources := satInc s.line.counters.wrongSources }
          | .sent => s.line.counters } ∧
      (1 ≤ o.addr → o.addr ≤ 30 →
        let r := s.node o.addr
        let r' := t.node o.addr
        let threshold := (s.cfg o.addr).offlineThreshold.toNat
        let fail := if r.failCount = threshold then threshold else r.failCount + 1
        r'.attempts = satInc r.attempts ∧
        r'.failures = (if x.isFailure then satInc r.failures else r.failures) ∧
        (r.health = .disabled → r'.health = .disabled) ∧
        (r.health ≠ .disabled → x.isFailure = false → r'.health = .online ∧ r'.failCount = 0) ∧
        (r.health ≠ .disabled → x.isFailure = true → r'.failCount = fail ∧
          r'.health = (if r.health = .offline then .offline
            else if threshold ≤ fail then .offline
            else if r.health = .online then .suspect else r.health)) ∧
        (o.owner ≠ .schedule → r'.countdown =
          if r'.health = .offline ∧ r.health ≠ .offline then (s.cfg o.addr).probeInterval
          else if r.health = .offline ∧ x.isFailure = false then 0 else r.countdown) ∧
        r'.attention = (match x with
          | .replied (.data status _) => status.getLsbD 7
          | .replied (.statusReply status _) => status.getLsbD 7
          | .replied (.passReply status _) => status.getLsbD 7
          | _ => r.attention)) ∧
      (o.owner ≠ .schedule → ∀ n, n ≠ o.addr → t.node n = s.node n) ∧
      (∀ n, n ≠ o.addr → { t.node n with countdown := (s.node n).countdown } = s.node n) ∧
      (∀ status block, x = .replied (.data status block) → t.images = bankSet s.images o.addr
        { s.image o.addr with
          data := block, status := status, sequence := (s.image o.addr).sequence + 1, age := 0, valid := true }) ∧
      ((∀ status block, x ≠ .replied (.data status block)) → t.images = s.images) ∧
      (o.owner ≠ .schedule → t.sched = s.sched) ∧
      (¬ (s.health o.addr ≠ .offline ∧ t.health o.addr = .offline) →
        (o.owner = .schedule ∨ o.owner = .bulk ∨ o.owner = .none → t.queue = s.queue ∧ t.link = s.link) ∧
        (o.owner ≠ .bulk → t.bulk = s.bulk)) ∧
      t.tables = s.tables ∧ t.now = s.now ∧ t.resetAsserted = s.resetAsserted ∧ t.upStrap = s.upStrap ∧
      t.downStrap = s.downStrap ∧ t.pending = s.pending

/-- The notices an outcome offers, for an owner that offers none of its own (a demand order, none, the cancel
frame and a DETACHED segment) and where no transfer ends: HEALTH at a valid reply that takes the node from
PROBING or OFFLINE to ONLINE and at an entry to OFFLINE; then ATTENTION at a clear-to-set change of the flag;
and CHANGE where a DATA reply is a change: with notify ANY_CHANGE an invalid record or another block or status
byte, with STATUS_ONLY an invalid record or another status byte, with NONE never. Whether CHANGE comes before or
after the other two is open (log entry 11) (R44, R45, R47, R48, R64, R68, R69). -/
def Obligations.OutcomesOfferTheirNotices : Prop :=
  ∀ (s : State) (o : Order) (output : Bool) (x : LineOutcome),
    let n := o.addr
    let r := s.node n
    let i := s.image n
    let threshold := (s.cfg n).offlineThreshold.toNat
    let fail := if r.failCount = threshold then threshold else r.failCount + 1
    let enters : Prop := x.isFailure = true ∧ r.health ≠ .offline ∧ r.health ≠ .disabled ∧ threshold ≤ fail
    let recovers : Prop := x.isFailure = false ∧ (r.health = .probing ∨ r.health = .offline)
    let raised (status : Byte) : Bool := status.getLsbD 7 && !r.attention
    let attention : Bool := match x with
      | .replied (.data status _) => raised status
      | .replied (.statusReply status _) => raised status
      | .replied (.passReply status _) => raised status
      | _ => false
    let told (q : NoticeQueue) : NoticeQueue :=
      let q1 := if enters ∨ recovers then q.offer (.health n 0) else q
      if attention then q1.offer (.attention n) else q1
    let after := (s.deliver o output x).notices
    o.owner = .none ∨ (∃ cls, o.owner = .demand cls) ∨
      (o.owner = .bulk ∧ (s.bulk.cancelOnLine = true ∨ s.bulk.segPhase ≠ .onLine)) → ¬ (enters ∧ s.bulk.state.active = true ∧ s.bulk.node = some n) →
    ((∀ status block, x ≠ .replied (.data status block)) → after = told s.notices) ∧
    (∀ status block, x = .replied (.data status block) →
      let change : Prop := ((s.cfg n).notify = .anyChange ∧
          (i.valid = false ∨ block ≠ i.data ∨ status ≠ i.status)) ∨
        ((s.cfg n).notify = .statusOnly ∧ (i.valid = false ∨ status ≠ i.status))
      (¬ change → after = told s.notices) ∧
      (change → after = (told s.notices).offer (.change n 0) ∨ after = told (s.notices.offer (.change n 0))))

/-- The schedule as owner of an outcome. Everything but the schedule's own part is as for an order with no
owner. A detached step's outcome clears the detached step alone: no retry, no walk. An attached step whose
failure wants a retry (fewer attempts than 1 + retry_limit and no entry to OFFLINE) has its retry pending, the
position as it was. Any other outcome is final: the attached step is absent, the main index one past its entry,
or the interleave pointer one on and the spacing 0, or the sweep address one past its node, and the walk is
taken (R11, R127, R130). -/
def Obligations.ScheduleOutcomesMoveThePosition : Prop :=
  ∀ (s : State) (o : Order) (output : Bool) (x : LineOutcome) (a : Attached) (step : SchedStep),
    let d := s.sched
    let r := s.node o.addr
    let threshold := (s.cfg o.addr).offlineThreshold.toNat
    let fail := if r.failCount = threshold then threshold else r.failCount + 1
    let enters : Prop := r.health ≠ .offline ∧ r.health ≠ .disabled ∧ threshold ≤ fail
    let wanted : Prop := x.isFailure = true ∧ a.attempts < 1 + (s.cfg o.addr).retryLimit.toNat ∧ ¬ enters
    let others (d' : Sched) : State := ({ s with sched := d' } : State).deliver { o with owner := .none } output x
    let passed : Sched := { d with attached := none }
    let after := s.deliver o output x
    o.owner = .schedule →
    (d.detached = some step → after = others { d with detached := none }) ∧
    (d.detached = none → d.attached = some a → wanted →
      after = others { d with attached := some { a with retryPending := true } }) ∧
    (d.detached = none → d.attached = some a → ¬ wanted →
      (a.step.kind = .main → after = (others { passed with mainIndex := a.step.pos + 1 }).walk) ∧
      (a.step.kind = .interleave → after = (others { passed with
        ilPointer := if s.tables.active.ilLen = 0 then 0 else (a.step.pos + 1) % s.tables.active.ilLen
        spacing := 0 }).walk) ∧
      (a.step.kind = .probe → after = (others { passed with sweepAddr := a.step.pos + 1 }).walk)) ∧
    (∀ d', (others d').sched = d')

/-- The completion of the entry at the head of a class by its own outcome: a REPLIED or NODE_ERROR outcome, and
a failure with no retry wanted, answer every tag in list order with the result R90 gives and remove the entry; a
failure with a retry wanted leaves it at the head awaiting its retry, with no reply, unless it is a PASS while
SAFE is on, which is answered SAFE_STATE. A failure that takes the node OFFLINE wants no retry: its own entry is
answered with the result R90 gives, not NODE_OFFLINE, after the other entries that the entry to OFFLINE
completes (R89, R90, R95, R96, R127). -/
def Obligations.DemandOutcomesAnswerTheTags : Prop :=
  ∀ (s : State) (o : Order) (cls : QueueClass) (e : Entry) (rest : List Entry) (output : Bool) (k : FailKind)
    (code status nodeType : Byte) (block : List Byte) (content : ReplyContent),
    let t (x : LineOutcome) : State := s.deliver o output x
    let health (x : LineOutcome) : Byte := ((t x).health e.node).code
    let out : Byte := if output then 1 else 0
    let enters : Prop := ((s.node o.addr).take (s.cfg o.addr) (.failure k)).health = .offline ∧
      s.health o.addr ≠ .offline
    let final (x : LineOutcome) (r : Byte) (bytes : List Byte) : Prop :=
      (t x).queue = s.queue.setFifo cls rest ∧
      (t x).link = { s.link with replies := s.link.replies ++ e.tags.map fun tg =>
        ⟨natByte e.node ||| 0x80, e.kind.command.code ||| 0x80, tg.tag, r :: bytes⟩ }
    let gone (y : Entry) : Bool := y.node == o.addr && y.phase != .onLine && y.kind != .probe
    let lastly (r : Byte) (bytes : List Byte) : Prop :=
      (∀ c, (t (.failure k)).queue.fifo c =
        (if c = cls then rest else s.queue.fifo c).filter fun y => !gone y) ∧
      (t (.failure k)).link = { s.link with replies := (s.link.replies
        ++ (s.queue.entries.filter gone).flatMap (fun y => y.tags.map fun tg =>
          ⟨natByte y.node ||| 0x80, y.kind.command.code ||| 0x80, tg.tag,
            if y.kind = .refresh then 0x35 :: (t (.failure k)).reading y.node else [0x21]⟩)
        ++ e.tags.map fun tg =>
          ⟨natByte e.node ||| 0x80, e.kind.command.code ||| 0x80, tg.tag, r :: bytes⟩) }
    o.owner = .demand cls → s.queue.fifo cls = e :: rest → e.node = o.addr →
    (e.kind = .refresh → final (.replied content) 0x00 ((t (.replied content)).reading e.node)) ∧
    (e.kind = .exchange → final (.replied content) 0x00 (out :: (t (.replied content)).reading e.node)) ∧
    (∀ sent, e.kind = .pass sent → final (.replied (.passReply status block)) 0x00 (status :: block)) ∧
    (e.kind = .probe → final (.replied (.statusReply status nodeType)) 0x00
      [status, nodeType, health (.replied (.statusReply status nodeType))]) ∧
    (e.kind = .refresh → final (.nodeError code) 0x35 ((t (.nodeError code)).reading e.node)) ∧
    (e.kind = .exchange → final (.nodeError code) 0x37 [out, code]) ∧
    (∀ sent, e.kind = .pass sent → final (.nodeError code) 0x37 [code]) ∧
    (e.kind = .probe → final (.nodeError code) 0x37 [code, health (.nodeError code)]) ∧
    (¬ enters → 1 + (s.cfg o.addr).retryLimit.toNat ≤ e.attempts →
      (e.kind = .refresh → final (.failure k) 0x35 ((t (.failure k)).reading e.node)) ∧
      (e.kind = .exchange → final (.failure k) 0x36 [out, k.code]) ∧
      (∀ sent, e.kind = .pass sent → final (.failure k) 0x36 [k.code]) ∧
      (e.kind = .probe → final (.failure k) 0x36 [k.code, health (.failure k)])) ∧
    (enters → e.phase = .onLine →
      (e.kind = .refresh → lastly 0x35 ((t (.failure k)).reading e.node)) ∧
      (e.kind = .exchange → lastly 0x36 [out, k.code]) ∧
      (∀ sent, e.kind = .pass sent → lastly 0x36 [k.code]) ∧
      (e.kind = .probe → lastly 0x36 [k.code, health (.failure k)])) ∧
    (¬ enters → e.attempts < 1 + (s.cfg o.addr).retryLimit.toNat →
      (e.kind.isPass = true → s.sched.safe = true → final (.failure k) 0x27 []) ∧
      (e.kind.isPass = false ∨ s.sched.safe = false →
        (t (.failure k)).queue = s.queue.setFifo cls ({ e with phase := .retryPending } :: rest) ∧
        (t (.failure k)).link = s.link))

/-- An entry to OFFLINE, a failure that brings a node's fail_count to its threshold: every queued or
RETRY_PENDING entry for the node but PROBE entries is answered, tag by tag in queue order, NODE_OFFLINE, or for
a REFRESH entry REFRESH_FAILED with the input reading, and gone; PROBE entries, an entry on the line and the
entries for other nodes stay, the attempt's own entry, where it has one, being answered after them
(`DemandOutcomesAnswerTheTags`); an active transfer to the node has ended FAILED, NODE_OFFLINE, a RETRY_PENDING
segment NONE, an order of the bulk unit's own taken, the cancel record, the counts and all else of it kept, and
HEALTH and then BULK_END offered; with no such transfer the record stays and HEALTH alone is offered. The walk
that follows a schedule step may offer CYCLE_OVERRUN after them (R16, R45, R48, R49, R91, R95, R110, R115 to
R117). -/
def Obligations.EntryToOfflineReachesTheQueues : Prop :=
  ∀ (s : State) (o : Order) (output : Bool) (k : FailKind),
    let t := s.deliver o output (.failure k)
    let gone (e : Entry) : Bool := e.node == o.addr && e.phase != .onLine && e.kind != .probe
    let answers : List UpFrame := (s.queue.entries.filter gone).flatMap fun e => e.tags.map fun tg =>
      ⟨natByte e.node ||| 0x80, e.kind.command.code ||| 0x80, tg.tag,
        if e.kind = .refresh then 0x35 :: t.reading e.node else [0x21]⟩
    let active : Prop := s.bulk.node = some o.addr ∧ s.bulk.state.active = true
    let ended : Bulk := { s.bulk with
      state := .ended (.failed .nodeOffline)
      segPhase := if s.bulk.segPhase = .retryPending then .none else s.bulk.segPhase }
    let health := s.notices.offer (.health o.addr 0)
    let told := health.offer (.bulkEnd o.addr (.failed .nodeOffline) s.bulk.acked)
    1 ≤ o.addr → o.addr ≤ 30 → s.health o.addr ≠ .offline → t.health o.addr = .offline →
    (o.owner = .schedule ∨ o.owner = .bulk ∨ o.owner = .none →
      (∀ cls, t.queue.fifo cls = (s.queue.fifo cls).filter fun e => !gone e) ∧
      t.link = { s.link with replies := s.link.replies ++ answers }) ∧
    (∀ cls e rest, o.owner = .demand cls → s.queue.fifo cls = e :: rest → e.phase = .onLine → e.node = o.addr →
      (∀ c, t.queue.fifo c = (if c = cls then rest else s.queue.fifo c).filter fun y => !gone y) ∧
      ∃ own, t.link = { s.link with replies := s.link.replies ++ answers ++ own } ∧
        own.map (·.tag) = e.tags.map (·.tag)) ∧
    (o.owner ≠ .bulk →
      (active → t.bulk = ended ∧ (o.owner ≠ .schedule → t.notices = told) ∧
        (o.owner = .schedule → t.notices = told ∨ t.notices = told.offer .cycleOverrun)) ∧
      (¬ active → t.bulk = s.bulk ∧ (o.owner ≠ .schedule → t.notices = health) ∧
        (o.owner = .schedule → t.notices = health ∨ t.notices = health.offer .cycleOverrun))) ∧
    (o.owner = .bulk → active → t.notices = told ∧
      (s.bulk.cancelOnLine = true → t.bulk = { ended with cancelOnLine := false }) ∧
      (s.bulk.cancelOnLine = false → t.bulk = { ended with segPhase := .none }))

/-! ### Arbitration -/

/-- ARBITRATION with the line IDLE orders at most one want, the first of R122 that may be ordered, and an order
is accepted in the same event. In order: the safe broadcast, clearing its request; the URGENT head, its attempt
counted and its expiry times stopped; a cancel whose node is neither OFFLINE nor DISABLED, any other cancel
being dropped with no order; a segment, a first attempt only where the schedule presents no want or the pace has
reached bulk_pace, the pace then 0; the NORMAL head, a first attempt only where the schedule presents no want or
the credit is above 0, which it then lowers by 1; the schedule's ready step or retry that passes its health
test, a first attempt refilling the credit, advancing the pace and the spacing, loading a probe's countdown and
beginning the cycle; a ready step or retry that fails it is dropped, the position moved past it and the walk
taken again, whose ready step is ordered, and where that leaves no schedule want the wants are looked at again.
With no want nothing happens (R9, R10, R88, R89, R105, R106, R115, R121 to R126, R128, R137). -/
def Obligations.ArbitrationOrdersTheFirstWant : Prop :=
  ∀ s : State, s.line.phase = .idle → s.txSettled = true →
    let want := s.scheduleWant
    let free : Prop := s.sched.safeBroadcast = false
    let quietUrgent : Prop := s.headWant .urgent = false
    let noCancel : Prop := s.bulk.cancel = none ∨ s.bulk.segPhase = .onLine ∨ s.bulk.segPhase = .detached ∨
      s.bulk.cancelOnLine = true
    let noSegment : Prop := s.segmentWant = false ∨
      (s.bulk.segPhase = .none ∧ want = true ∧ s.sched.pace < s.tables.active.line.bulkPace.toNat)
    let ordered (x : Entry) : Entry := { x with
      phase := .onLine
      attempts := x.attempts + 1
      tags := x.tags.map fun t => { t with expiry := none } }
    let noNormal : Prop := s.headWant .normal = false ∨ ∃ x rest, s.queue.normal = x :: rest ∧
      x.phase = .queued ∧ want = true ∧ s.sched.credit = 0
    let firstAttempt (u : State) (st : SchedStep) : State :=
      ({ u with
          nodes := if st.kind = .probe then
              bankSet u.nodes st.node { u.node st.node with countdown := (u.cfg st.node).probeInterval }
            else u.nodes
          sched := { u.sched with
            ready := none
            attached := some ⟨st, 1, false⟩
            spacing := if st.kind = .main ∧ 0 < u.tables.active.ilLen then u.sched.spacing + 1
              else u.sched.spacing
            cycleStart := some (u.sched.cycleStart.getD u.now)
            boundaryMark := if u.sched.cycleStart = none then false else u.sched.boundaryMark
            credit := u.tables.active.line.demandShare.toNat
            pace := min 8 (u.sched.pace + 1) } } : State).acceptOrder
        ⟨if st.kind = .probe then .status else .exchange, st.node, .schedule, 1⟩
    let passed (st : SchedStep) : Sched := match st.kind with
      | .main => { s.sched with mainIndex := st.pos + 1 }
      | .interleave => { s.sched with
          ilPointer := if s.tables.active.ilLen = 0 then 0 else (st.pos + 1) % s.tables.active.ilLen, spacing := 0 }
      | .probe => { s.sched with sweepAddr := st.pos + 1 }
    (s.sched.safeBroadcast = true → exec .arbitration s = .next
      (({ s with sched := { s.sched with safeBroadcast := false } } : State).acceptOrder
        ⟨.safe, 31, .none, 1⟩)) ∧
    (∀ x rest, free → s.queue.urgent = x :: rest → x.phase ≠ .onLine → exec .arbitration s = .next
      (({ s with queue := { s.queue with urgent := ordered x :: rest } } : State).acceptOrder
        ⟨x.kind.request, x.node, .demand .urgent, x.attempts + 1⟩)) ∧
    (∀ n i, free → quietUrgent → s.bulk.cancel = some (n, i) → s.bulk.segPhase ≠ .onLine →
      s.bulk.segPhase ≠ .detached → s.bulk.cancelOnLine = false → s.health n ≠ .offline → s.health n ≠ .disabled →
      exec .arbitration s = .next
        (({ s with bulk := { s.bulk with cancel := none, cancelOnLine := true } } : State).acceptOrder
          ⟨.segment i false true [], n, .bulk, 1⟩)) ∧
    (∀ n i, free → quietUrgent → s.bulk.cancel = some (n, i) → s.bulk.segPhase ≠ .onLine →
      s.bulk.segPhase ≠ .detached → s.bulk.cancelOnLine = false → s.health n = .offline ∨ s.health n = .disabled →
      exec .arbitration s = exec .arbitration { s with bulk := { s.bulk with cancel := none } }) ∧
    (∀ n declared, free → quietUrgent → noCancel → s.segmentWant = true → ¬ noSegment → s.bulk.node = some n →
      s.bulk.declared = some declared →
      let i := s.bulk.nextIndex
      exec .arbitration s = .next
        (({ s with
            bulk := { s.bulk with attempts := s.bulk.attempts + 1, segPhase := .onLine }
            sched := { s.sched with pace := if s.bulk.segPhase = .none then 0 else s.sched.pace } } : State).acceptOrder
          ⟨.segment i (i + 1 == s.bulk.segCount) false
            ((List.range (min 32 (declared - i * 32))).map fun j => s.bulk.buffer.read (i * 32 + j)),
            n, .bulk, s.bulk.attempts + 1⟩)) ∧
    (∀ x rest, free → quietUrgent → noCancel → noSegment → s.queue.normal = x :: rest → x.phase ≠ .onLine →
      ¬ noNormal → exec .arbitration s = .next
        (({ s with
            queue := { s.queue with normal := ordered x :: rest }
            sched := { s.sched with credit :=
              if x.phase = .queued ∧ want = true then s.sched.credit - 1 else s.sched.credit } } : State).acceptOrder
          ⟨x.kind.request, x.node, .demand .normal, x.attempts + 1⟩)) ∧
    (∀ st, free → quietUrgent → noCancel → noSegment → noNormal → want = true → s.sched.ready = some st →
      (st.kind = .probe ↔ s.health st.node = .offline) →
      exec .arbitration s = .next
        (firstAttempt s st)) ∧
    (∀ a, free → quietUrgent → noCancel → noSegment → noNormal → want = true → s.sched.ready = none →
      s.sched.attached = some a → (a.step.kind = .probe ↔ s.health a.step.node = .offline) →
      exec .arbitration s = .next
        (({ s with sched := { s.sched with attached := some ⟨a.step, a.attempts + 1, false⟩ } } : State).acceptOrder
          ⟨if a.step.kind = .probe then .status else .exchange, a.step.node, .schedule, a.attempts + 1⟩)) ∧
    (∀ st st', free → quietUrgent → noCancel → noSegment → noNormal → want = true → s.sched.ready = some st →
      ¬ (st.kind = .probe ↔ s.health st.node = .offline) →
      let u := ({ s with sched := { passed st with ready := none } } : State).walk
      (u.scheduleWant = true → u.sched.ready = some st' →
        exec .arbitration s = .next (firstAttempt u st').follow) ∧
      (u.scheduleWant = false → exec .arbitration s = exec .arbitration u)) ∧
    (∀ a st', free → quietUrgent → noCancel → noSegment → noNormal → want = true → s.sched.ready = none →
      s.sched.attached = some a → ¬ (a.step.kind = .probe ↔ s.health a.step.node = .offline) →
      let u := ({ s with sched := { passed a.step with attached := none } } : State).walk
      (u.scheduleWant = true → u.sched.ready = some st' →
        exec .arbitration s = .next (firstAttempt u st').follow) ∧
      (u.scheduleWant = false → exec .arbitration s = exec .arbitration u)) ∧
    (free → quietUrgent → noCancel → noSegment → noNormal → want = false → s.applicationDue = false →
      exec .arbitration s = .next s)

/-! ### The timebase -/

/-- TIMEBASE_TICK completes whenever no expiry must come first (log entry 3): the tick time is one higher, the
age of every valid input record one higher, stopping at 65535, the age of an invalid one stands, and nothing else
changes (R63). An expiry must come first exactly where a running timer's n + 1 ticks are used up (R27, R92, R109,
R133, R147, R166) or the expiry time of the min-period wait, a fixed tick, is reached (R15); the tick is refused
then. -/
def Obligations.TickAgesTheImages : Prop :=
  ∀ s : State,
    (s.overdue = true ↔ (∃ t ∈ s.timers, t < s.now) ∨ ∃ e, s.sched.minWait = some e ∧ e ≤ s.now) ∧
    (s.overdue = true → exec .timebaseTick s = .refused (.cannotOccur "TIMEBASE_TICK")) ∧
    (s.overdue = false → ∃ images,
      exec .timebaseTick s = .next { s with now := s.now + 1, images := images } ∧
      ∀ n, 1 ≤ n → n ≤ 30 → bankGet images (Image.reset 0 0) n =
        { s.image n with age :=
          if (s.image n).valid = false then (s.image n).age
          else if (s.image n).age = 65535 then 65535 else (s.image n).age + 1 })

/-! ### Laws of every step -/

/-- While SAFE is on, after the event too, no EXCHANGE frame begun carries an output block, and no PASS frame
and no SEGMENT frame without the CANCEL flag is begun: of every command, from every state that keeps the safe
law (R136; the law is `StepsKeepTheSafeLaw`). -/
def Obligations.SafeFramesCarryNoOutputs : Prop :=
  ∀ (c : Instr) (s t : State) (o : Order) (frame : List Byte) (output : Bool),
    s.safeLaw = true → s.line.phase.isSending = false → exec c s = .next t → t.sched.safe = true →
    t.line.phase = .sending o frame output →
    output = false ∧ (∀ bytes, o.request ≠ .pass bytes) ∧
    (∀ i last data, o.request ≠ .segment i last false data) ∧
    (o.request = .exchange → frame = downFrame (natByte o.addr) 0x01 [0x01])

/-- Right after reset every law below holds. -/
def Obligations.ResetMeetsTheLaws : Prop :=
  State.reset.bulk.sound = true ∧ State.reset.line.sound = true ∧ State.reset.notices.sound = true ∧
  State.reset.queueSound = true ∧ State.reset.safeLaw = true ∧ State.reset.passLock = true ∧
  State.reset.tables.sound = true ∧ State.reset.recordsSound = true ∧ State.reset.txSettled = true ∧
  State.reset.decided = true

/-- Every step keeps the transfer buffer in canonical form, the filled count at most the declared length and the
declared length at most 512 (R100); and from such a state no step ends in a fault. -/
def Obligations.StepsKeepTheBufferSound : Prop :=
  ∀ s : State, s.bulk.sound = true →
    (∀ t, step s = .next t → t.bulk.sound = true) ∧ (∀ f, step s ≠ .fault f)

/-- Every step keeps the notice queue sound: at most 24 notices; among the waiting ones at most one of each
per-node kind per node, one OVERFLOW and one CYCLE_OVERRUN; overflow-pending only in a full queue with no
OVERFLOW waiting (R142, R144). -/
def Obligations.StepsKeepTheNoticeQueueSound : Prop :=
  ∀ s t : State, s.notices.sound = true → step s = .next t → t.notices.sound = true

/-- Every step keeps the request queue sound: no tag outstanding twice, at most 8 outstanding, no entry without
a tag, only the head of a class in flight, at most one queued REFRESH entry for a node, and queued reply frames
and outstanding tags within the 16 reply slots (R82, R83, R87, R168). -/
def Obligations.StepsKeepTheRequestQueueSound : Prop :=
  ∀ s t : State, s.queueSound = true → step s = .next t → t.queueSound = true

/-- Every step keeps the safe law: the broadcast request only while SAFE is on; while SAFE is on no transfer
RUNNING or WAITING, no PASS entry queued or awaiting a retry, no PASS or data segment in GAP_WAIT (R96, R113,
R136, R137). -/
def Obligations.StepsKeepTheSafeLaw : Prop :=
  ∀ s t : State, s.safeLaw = true → step s = .next t → t.safeLaw = true

/-- Every step keeps the line direction output at transmit exactly in SENDING (R30, R31, Table 2-1), and every
step keeps the lock on PASS: while a transfer to a node is active no PASS entry for that node is held (R119). -/
def Obligations.StepsKeepTheDirectionAndThePassLock : Prop :=
  (∀ s t : State, s.line.sound = true → step s = .next t → t.line.sound = true) ∧
  (∀ s t : State, s.passLock = true → step s = .next t → t.passLock = true)

/-- Every step keeps the active tables, and the shadow while a commit is pending, passing every commit
validation check (R155, R159, R160, R162). -/
def Obligations.StepsKeepTheTablesValid : Prop :=
  ∀ s t : State, s.tables.sound = true → step s = .next t → t.tables.sound = true

/-- Every step keeps every node's records in agreement with its configuration: DISABLED exactly when not
enabled; fail_count 0 in ONLINE, below offline_threshold in PROBING and SUSPECT, at it in OFFLINE; image data of
input_len and output_len bytes; an invalid record's age 65535 and status 0 (R42, R45, R55, R61 to R63, R77). -/
def Obligations.StepsKeepTheRecordsSound : Prop :=
  ∀ s t : State, s.recordsSound = true → step s = .next t → t.recordsSound = true

/-- Every step keeps the transmitter settled: an IDLE transmitter has neither a reply nor a ready notice it may
take left to send, and its reply run counter is 0 (R171). -/
def Obligations.StepsKeepTheTransmitterSettled : Prop :=
  ∀ s t : State, s.txSettled = true → step s = .next t → t.txSettled = true

/-- Every step leaves nothing due: after it no want is present with the line IDLE, and no commit is pending
whose application's conditions hold (R121, R161; the rows that stand apart from their event, log entry 4). -/
def Obligations.StepsLeaveNothingDue : Prop :=
  ∀ s t : State, s.decided = true → step s = .next t → t.decided = true
end

