-- ==== Sys2Proof/Laws/State.lean ====
section
/-! SUPPORT. The fields of the state after each named update, so that no proof unfolds a record update. -/

namespace Sys2Proof.Machine

variable (s : State)

/-! ### withLine -/

@[simp] theorem State.withLine_now (x : LineCtl) : (s.withLine x).now = s.now := rfl
@[simp] theorem State.withLine_resetAsserted (x : LineCtl) : (s.withLine x).resetAsserted = s.resetAsserted := rfl
@[simp] theorem State.withLine_upStrap (x : LineCtl) : (s.withLine x).upStrap = s.upStrap := rfl
@[simp] theorem State.withLine_downStrap (x : LineCtl) : (s.withLine x).downStrap = s.downStrap := rfl
@[simp] theorem State.withLine_line (x : LineCtl) : (s.withLine x).line = x := rfl
@[simp] theorem State.withLine_sched (x : LineCtl) : (s.withLine x).sched = s.sched := rfl
@[simp] theorem State.withLine_nodes (x : LineCtl) : (s.withLine x).nodes = s.nodes := rfl
@[simp] theorem State.withLine_images (x : LineCtl) : (s.withLine x).images = s.images := rfl
@[simp] theorem State.withLine_queue (x : LineCtl) : (s.withLine x).queue = s.queue := rfl
@[simp] theorem State.withLine_bulk (x : LineCtl) : (s.withLine x).bulk = s.bulk := rfl
@[simp] theorem State.withLine_notices (x : LineCtl) : (s.withLine x).notices = s.notices := rfl
@[simp] theorem State.withLine_tables (x : LineCtl) : (s.withLine x).tables = s.tables := rfl
@[simp] theorem State.withLine_link (x : LineCtl) : (s.withLine x).link = s.link := rfl
@[simp] theorem State.withLine_choices (x : LineCtl) : (s.withLine x).choices = s.choices := rfl
@[simp] theorem State.withLine_pending (x : LineCtl) : (s.withLine x).pending = s.pending := rfl
@[simp] theorem State.withLine_cfg (x : LineCtl) (n : Nat) : (s.withLine x).cfg n = s.cfg n := rfl
@[simp] theorem State.withLine_params (x : LineCtl) : (s.withLine x).params = s.params := rfl
@[simp] theorem State.withLine_mainLen (x : LineCtl) : (s.withLine x).mainLen = s.mainLen := rfl
@[simp] theorem State.withLine_node (x : LineCtl) (n : Nat) : (s.withLine x).node n = s.node n := rfl
@[simp] theorem State.withLine_health (x : LineCtl) (n : Nat) : (s.withLine x).health n = s.health n := rfl
@[simp] theorem State.withLine_image (x : LineCtl) (n : Nat) : (s.withLine x).image n = s.image n := rfl
@[simp] theorem State.withLine_outstanding (x : LineCtl) : (s.withLine x).outstanding = s.outstanding := rfl

/-! ### withSched -/

@[simp] theorem State.withSched_now (x : Sched) : (s.withSched x).now = s.now := rfl
@[simp] theorem State.withSched_resetAsserted (x : Sched) : (s.withSched x).resetAsserted = s.resetAsserted := rfl
@[simp] theorem State.withSched_upStrap (x : Sched) : (s.withSched x).upStrap = s.upStrap := rfl
@[simp] theorem State.withSched_downStrap (x : Sched) : (s.withSched x).downStrap = s.downStrap := rfl
@[simp] theorem State.withSched_line (x : Sched) : (s.withSched x).line = s.line := rfl
@[simp] theorem State.withSched_sched (x : Sched) : (s.withSched x).sched = x := rfl
@[simp] theorem State.withSched_nodes (x : Sched) : (s.withSched x).nodes = s.nodes := rfl
@[simp] theorem State.withSched_images (x : Sched) : (s.withSched x).images = s.images := rfl
@[simp] theorem State.withSched_queue (x : Sched) : (s.withSched x).queue = s.queue := rfl
@[simp] theorem State.withSched_bulk (x : Sched) : (s.withSched x).bulk = s.bulk := rfl
@[simp] theorem State.withSched_notices (x : Sched) : (s.withSched x).notices = s.notices := rfl
@[simp] theorem State.withSched_tables (x : Sched) : (s.withSched x).tables = s.tables := rfl
@[simp] theorem State.withSched_link (x : Sched) : (s.withSched x).link = s.link := rfl
@[simp] theorem State.withSched_choices (x : Sched) : (s.withSched x).choices = s.choices := rfl
@[simp] theorem State.withSched_pending (x : Sched) : (s.withSched x).pending = s.pending := rfl
@[simp] theorem State.withSched_cfg (x : Sched) (n : Nat) : (s.withSched x).cfg n = s.cfg n := rfl
@[simp] theorem State.withSched_params (x : Sched) : (s.withSched x).params = s.params := rfl
@[simp] theorem State.withSched_mainLen (x : Sched) : (s.withSched x).mainLen = s.mainLen := rfl
@[simp] theorem State.withSched_node (x : Sched) (n : Nat) : (s.withSched x).node n = s.node n := rfl
@[simp] theorem State.withSched_health (x : Sched) (n : Nat) : (s.withSched x).health n = s.health n := rfl
@[simp] theorem State.withSched_image (x : Sched) (n : Nat) : (s.withSched x).image n = s.image n := rfl
@[simp] theorem State.withSched_outstanding (x : Sched) : (s.withSched x).outstanding = s.outstanding := rfl

/-! ### withNodes -/

@[simp] theorem State.withNodes_now (x : Vector NodeRt 30) : (s.withNodes x).now = s.now := rfl
@[simp] theorem State.withNodes_resetAsserted (x : Vector NodeRt 30) : (s.withNodes x).resetAsserted = s.resetAsserted := rfl
@[simp] theorem State.withNodes_upStrap (x : Vector NodeRt 30) : (s.withNodes x).upStrap = s.upStrap := rfl
@[simp] theorem State.withNodes_downStrap (x : Vector NodeRt 30) : (s.withNodes x).downStrap = s.downStrap := rfl
@[simp] theorem State.withNodes_line (x : Vector NodeRt 30) : (s.withNodes x).line = s.line := rfl
@[simp] theorem State.withNodes_sched (x : Vector NodeRt 30) : (s.withNodes x).sched = s.sched := rfl
@[simp] theorem State.withNodes_nodes (x : Vector NodeRt 30) : (s.withNodes x).nodes = x := rfl
@[simp] theorem State.withNodes_images (x : Vector NodeRt 30) : (s.withNodes x).images = s.images := rfl
@[simp] theorem State.withNodes_queue (x : Vector NodeRt 30) : (s.withNodes x).queue = s.queue := rfl
@[simp] theorem State.withNodes_bulk (x : Vector NodeRt 30) : (s.withNodes x).bulk = s.bulk := rfl
@[simp] theorem State.withNodes_notices (x : Vector NodeRt 30) : (s.withNodes x).notices = s.notices := rfl
@[simp] theorem State.withNodes_tables (x : Vector NodeRt 30) : (s.withNodes x).tables = s.tables := rfl
@[simp] theorem State.withNodes_link (x : Vector NodeRt 30) : (s.withNodes x).link = s.link := rfl
@[simp] theorem State.withNodes_choices (x : Vector NodeRt 30) : (s.withNodes x).choices = s.choices := rfl
@[simp] theorem State.withNodes_pending (x : Vector NodeRt 30) : (s.withNodes x).pending = s.pending := rfl
@[simp] theorem State.withNodes_cfg (x : Vector NodeRt 30) (n : Nat) : (s.withNodes x).cfg n = s.cfg n := rfl
@[simp] theorem State.withNodes_params (x : Vector NodeRt 30) : (s.withNodes x).params = s.params := rfl
@[simp] theorem State.withNodes_mainLen (x : Vector NodeRt 30) : (s.withNodes x).mainLen = s.mainLen := rfl
@[simp] theorem State.withNodes_image (x : Vector NodeRt 30) (n : Nat) : (s.withNodes x).image n = s.image n := rfl
@[simp] theorem State.withNodes_outstanding (x : Vector NodeRt 30) : (s.withNodes x).outstanding = s.outstanding := rfl

/-! ### withImages -/

@[simp] theorem State.withImages_now (x : Vector Image 30) : (s.withImages x).now = s.now := rfl
@[simp] theorem State.withImages_resetAsserted (x : Vector Image 30) : (s.withImages x).resetAsserted = s.resetAsserted := rfl
@[simp] theorem State.withImages_upStrap (x : Vector Image 30) : (s.withImages x).upStrap = s.upStrap := rfl
@[simp] theorem State.withImages_downStrap (x : Vector Image 30) : (s.withImages x).downStrap = s.downStrap := rfl
@[simp] theorem State.withImages_line (x : Vector Image 30) : (s.withImages x).line = s.line := rfl
@[simp] theorem State.withImages_sched (x : Vector Image 30) : (s.withImages x).sched = s.sched := rfl
@[simp] theorem State.withImages_nodes (x : Vector Image 30) : (s.withImages x).nodes = s.nodes := rfl
@[simp] theorem State.withImages_images (x : Vector Image 30) : (s.withImages x).images = x := rfl
@[simp] theorem State.withImages_queue (x : Vector Image 30) : (s.withImages x).queue = s.queue := rfl
@[simp] theorem State.withImages_bulk (x : Vector Image 30) : (s.withImages x).bulk = s.bulk := rfl
@[simp] theorem State.withImages_notices (x : Vector Image 30) : (s.withImages x).notices = s.notices := rfl
@[simp] theorem State.withImages_tables (x : Vector Image 30) : (s.withImages x).tables = s.tables := rfl
@[simp] theorem State.withImages_link (x : Vector Image 30) : (s.withImages x).link = s.link := rfl
@[simp] theorem State.withImages_choices (x : Vector Image 30) : (s.withImages x).choices = s.choices := rfl
@[simp] theorem State.withImages_pending (x : Vector Image 30) : (s.withImages x).pending = s.pending := rfl
@[simp] theorem State.withImages_cfg (x : Vector Image 30) (n : Nat) : (s.withImages x).cfg n = s.cfg n := rfl
@[simp] theorem State.withImages_params (x : Vector Image 30) : (s.withImages x).params = s.params := rfl
@[simp] theorem State.withImages_mainLen (x : Vector Image 30) : (s.withImages x).mainLen = s.mainLen := rfl
@[simp] theorem State.withImages_node (x : Vector Image 30) (n : Nat) : (s.withImages x).node n = s.node n := rfl
@[simp] theorem State.withImages_health (x : Vector Image 30) (n : Nat) : (s.withImages x).health n = s.health n := rfl
@[simp] theorem State.withImages_outstanding (x : Vector Image 30) : (s.withImages x).outstanding = s.outstanding := rfl

/-! ### withQueue -/

@[simp] theorem State.withQueue_now (x : ReqQueue) : (s.withQueue x).now = s.now := rfl
@[simp] theorem State.withQueue_resetAsserted (x : ReqQueue) : (s.withQueue x).resetAsserted = s.resetAsserted := rfl
@[simp] theorem State.withQueue_upStrap (x : ReqQueue) : (s.withQueue x).upStrap = s.upStrap := rfl
@[simp] theorem State.withQueue_downStrap (x : ReqQueue) : (s.withQueue x).downStrap = s.downStrap := rfl
@[simp] theorem State.withQueue_line (x : ReqQueue) : (s.withQueue x).line = s.line := rfl
@[simp] theorem State.withQueue_sched (x : ReqQueue) : (s.withQueue x).sched = s.sched := rfl
@[simp] theorem State.withQueue_nodes (x : ReqQueue) : (s.withQueue x).nodes = s.nodes := rfl
@[simp] theorem State.withQueue_images (x : ReqQueue) : (s.withQueue x).images = s.images := rfl
@[simp] theorem State.withQueue_queue (x : ReqQueue) : (s.withQueue x).queue = x := rfl
@[simp] theorem State.withQueue_bulk (x : ReqQueue) : (s.withQueue x).bulk = s.bulk := rfl
@[simp] theorem State.withQueue_notices (x : ReqQueue) : (s.withQueue x).notices = s.notices := rfl
@[simp] theorem State.withQueue_tables (x : ReqQueue) : (s.withQueue x).tables = s.tables := rfl
@[simp] theorem State.withQueue_link (x : ReqQueue) : (s.withQueue x).link = s.link := rfl
@[simp] theorem State.withQueue_choices (x : ReqQueue) : (s.withQueue x).choices = s.choices := rfl
@[simp] theorem State.withQueue_pending (x : ReqQueue) : (s.withQueue x).pending = s.pending := rfl
@[simp] theorem State.withQueue_cfg (x : ReqQueue) (n : Nat) : (s.withQueue x).cfg n = s.cfg n := rfl
@[simp] theorem State.withQueue_params (x : ReqQueue) : (s.withQueue x).params = s.params := rfl
@[simp] theorem State.withQueue_mainLen (x : ReqQueue) : (s.withQueue x).mainLen = s.mainLen := rfl
@[simp] theorem State.withQueue_node (x : ReqQueue) (n : Nat) : (s.withQueue x).node n = s.node n := rfl
@[simp] theorem State.withQueue_health (x : ReqQueue) (n : Nat) : (s.withQueue x).health n = s.health n := rfl
@[simp] theorem State.withQueue_image (x : ReqQueue) (n : Nat) : (s.withQueue x).image n = s.image n := rfl

/-! ### withBulk -/

@[simp] theorem State.withBulk_now (x : Bulk) : (s.withBulk x).now = s.now := rfl
@[simp] theorem State.withBulk_resetAsserted (x : Bulk) : (s.withBulk x).resetAsserted = s.resetAsserted := rfl
@[simp] theorem State.withBulk_upStrap (x : Bulk) : (s.withBulk x).upStrap = s.upStrap := rfl
@[simp] theorem State.withBulk_downStrap (x : Bulk) : (s.withBulk x).downStrap = s.downStrap := rfl
@[simp] theorem State.withBulk_line (x : Bulk) : (s.withBulk x).line = s.line := rfl
@[simp] theorem State.withBulk_sched (x : Bulk) : (s.withBulk x).sched = s.sched := rfl
@[simp] theorem State.withBulk_nodes (x : Bulk) : (s.withBulk x).nodes = s.nodes := rfl
@[simp] theorem State.withBulk_images (x : Bulk) : (s.withBulk x).images = s.images := rfl
@[simp] theorem State.withBulk_queue (x : Bulk) : (s.withBulk x).queue = s.queue := rfl
@[simp] theorem State.withBulk_bulk (x : Bulk) : (s.withBulk x).bulk = x := rfl
@[simp] theorem State.withBulk_notices (x : Bulk) : (s.withBulk x).notices = s.notices := rfl
@[simp] theorem State.withBulk_tables (x : Bulk) : (s.withBulk x).tables = s.tables := rfl
@[simp] theorem State.withBulk_link (x : Bulk) : (s.withBulk x).link = s.link := rfl
@[simp] theorem State.withBulk_choices (x : Bulk) : (s.withBulk x).choices = s.choices := rfl
@[simp] theorem State.withBulk_pending (x : Bulk) : (s.withBulk x).pending = s.pending := rfl
@[simp] theorem State.withBulk_cfg (x : Bulk) (n : Nat) : (s.withBulk x).cfg n = s.cfg n := rfl
@[simp] theorem State.withBulk_params (x : Bulk) : (s.withBulk x).params = s.params := rfl
@[simp] theorem State.withBulk_mainLen (x : Bulk) : (s.withBulk x).mainLen = s.mainLen := rfl
@[simp] theorem State.withBulk_node (x : Bulk) (n : Nat) : (s.withBulk x).node n = s.node n := rfl
@[simp] theorem State.withBulk_health (x : Bulk) (n : Nat) : (s.withBulk x).health n = s.health n := rfl
@[simp] theorem State.withBulk_image (x : Bulk) (n : Nat) : (s.withBulk x).image n = s.image n := rfl
@[simp] theorem State.withBulk_outstanding (x : Bulk) : (s.withBulk x).outstanding = s.outstanding := rfl

/-! ### withNotices -/

@[simp] theorem State.withNotices_now (x : NoticeQueue) : (s.withNotices x).now = s.now := rfl
@[simp] theorem State.withNotices_resetAsserted (x : NoticeQueue) : (s.withNotices x).resetAsserted = s.resetAsserted := rfl
@[simp] theorem State.withNotices_upStrap (x : NoticeQueue) : (s.withNotices x).upStrap = s.upStrap := rfl
@[simp] theorem State.withNotices_downStrap (x : NoticeQueue) : (s.withNotices x).downStrap = s.downStrap := rfl
@[simp] theorem State.withNotices_line (x : NoticeQueue) : (s.withNotices x).line = s.line := rfl
@[simp] theorem State.withNotices_sched (x : NoticeQueue) : (s.withNotices x).sched = s.sched := rfl
@[simp] theorem State.withNotices_nodes (x : NoticeQueue) : (s.withNotices x).nodes = s.nodes := rfl
@[simp] theorem State.withNotices_images (x : NoticeQueue) : (s.withNotices x).images = s.images := rfl
@[simp] theorem State.withNotices_queue (x : NoticeQueue) : (s.withNotices x).queue = s.queue := rfl
@[simp] theorem State.withNotices_bulk (x : NoticeQueue) : (s.withNotices x).bulk = s.bulk := rfl
@[simp] theorem State.withNotices_notices (x : NoticeQueue) : (s.withNotices x).notices = x := rfl
@[simp] theorem State.withNotices_tables (x : NoticeQueue) : (s.withNotices x).tables = s.tables := rfl
@[simp] theorem State.withNotices_link (x : NoticeQueue) : (s.withNotices x).link = s.link := rfl
@[simp] theorem State.withNotices_choices (x : NoticeQueue) : (s.withNotices x).choices = s.choices := rfl
@[simp] theorem State.withNotices_pending (x : NoticeQueue) : (s.withNotices x).pending = s.pending := rfl
@[simp] theorem State.withNotices_cfg (x : NoticeQueue) (n : Nat) : (s.withNotices x).cfg n = s.cfg n := rfl
@[simp] theorem State.withNotices_params (x : NoticeQueue) : (s.withNotices x).params = s.params := rfl
@[simp] theorem State.withNotices_mainLen (x : NoticeQueue) : (s.withNotices x).mainLen = s.mainLen := rfl
@[simp] theorem State.withNotices_node (x : NoticeQueue) (n : Nat) : (s.withNotices x).node n = s.node n := rfl
@[simp] theorem State.withNotices_health (x : NoticeQueue) (n : Nat) : (s.withNotices x).health n = s.health n := rfl
@[simp] theorem State.withNotices_image (x : NoticeQueue) (n : Nat) : (s.withNotices x).image n = s.image n := rfl
@[simp] theorem State.withNotices_outstanding (x : NoticeQueue) : (s.withNotices x).outstanding = s.outstanding := rfl

/-! ### withTables -/

@[simp] theorem State.withTables_now (x : TableStore) : (s.withTables x).now = s.now := rfl
@[simp] theorem State.withTables_resetAsserted (x : TableStore) : (s.withTables x).resetAsserted = s.resetAsserted := rfl
@[simp] theorem State.withTables_upStrap (x : TableStore) : (s.withTables x).upStrap = s.upStrap := rfl
@[simp] theorem State.withTables_downStrap (x : TableStore) : (s.withTables x).downStrap = s.downStrap := rfl
@[simp] theorem State.withTables_line (x : TableStore) : (s.withTables x).line = s.line := rfl
@[simp] theorem State.withTables_sched (x : TableStore) : (s.withTables x).sched = s.sched := rfl
@[simp] theorem State.withTables_nodes (x : TableStore) : (s.withTables x).nodes = s.nodes := rfl
@[simp] theorem State.withTables_images (x : TableStore) : (s.withTables x).images = s.images := rfl
@[simp] theorem State.withTables_queue (x : TableStore) : (s.withTables x).queue = s.queue := rfl
@[simp] theorem State.withTables_bulk (x : TableStore) : (s.withTables x).bulk = s.bulk := rfl
@[simp] theorem State.withTables_notices (x : TableStore) : (s.withTables x).notices = s.notices := rfl
@[simp] theorem State.withTables_tables (x : TableStore) : (s.withTables x).tables = x := rfl
@[simp] theorem State.withTables_link (x : TableStore) : (s.withTables x).link = s.link := rfl
@[simp] theorem State.withTables_choices (x : TableStore) : (s.withTables x).choices = s.choices := rfl
@[simp] theorem State.withTables_pending (x : TableStore) : (s.withTables x).pending = s.pending := rfl
@[simp] theorem State.withTables_node (x : TableStore) (n : Nat) : (s.withTables x).node n = s.node n := rfl
@[simp] theorem State.withTables_health (x : TableStore) (n : Nat) : (s.withTables x).health n = s.health n := rfl
@[simp] theorem State.withTables_image (x : TableStore) (n : Nat) : (s.withTables x).image n = s.image n := rfl
@[simp] theorem State.withTables_outstanding (x : TableStore) : (s.withTables x).outstanding = s.outstanding := rfl

/-! ### withLink -/

@[simp] theorem State.withLink_now (x : LinkPort) : (s.withLink x).now = s.now := rfl
@[simp] theorem State.withLink_resetAsserted (x : LinkPort) : (s.withLink x).resetAsserted = s.resetAsserted := rfl
@[simp] theorem State.withLink_upStrap (x : LinkPort) : (s.withLink x).upStrap = s.upStrap := rfl
@[simp] theorem State.withLink_downStrap (x : LinkPort) : (s.withLink x).downStrap = s.downStrap := rfl
@[simp] theorem State.withLink_line (x : LinkPort) : (s.withLink x).line = s.line := rfl
@[simp] theorem State.withLink_sched (x : LinkPort) : (s.withLink x).sched = s.sched := rfl
@[simp] theorem State.withLink_nodes (x : LinkPort) : (s.withLink x).nodes = s.nodes := rfl
@[simp] theorem State.withLink_images (x : LinkPort) : (s.withLink x).images = s.images := rfl
@[simp] theorem State.withLink_queue (x : LinkPort) : (s.withLink x).queue = s.queue := rfl
@[simp] theorem State.withLink_bulk (x : LinkPort) : (s.withLink x).bulk = s.bulk := rfl
@[simp] theorem State.withLink_notices (x : LinkPort) : (s.withLink x).notices = s.notices := rfl
@[simp] theorem State.withLink_tables (x : LinkPort) : (s.withLink x).tables = s.tables := rfl
@[simp] theorem State.withLink_link (x : LinkPort) : (s.withLink x).link = x := rfl
@[simp] theorem State.withLink_choices (x : LinkPort) : (s.withLink x).choices = s.choices := rfl
@[simp] theorem State.withLink_pending (x : LinkPort) : (s.withLink x).pending = s.pending := rfl
@[simp] theorem State.withLink_cfg (x : LinkPort) (n : Nat) : (s.withLink x).cfg n = s.cfg n := rfl
@[simp] theorem State.withLink_params (x : LinkPort) : (s.withLink x).params = s.params := rfl
@[simp] theorem State.withLink_mainLen (x : LinkPort) : (s.withLink x).mainLen = s.mainLen := rfl
@[simp] theorem State.withLink_node (x : LinkPort) (n : Nat) : (s.withLink x).node n = s.node n := rfl
@[simp] theorem State.withLink_health (x : LinkPort) (n : Nat) : (s.withLink x).health n = s.health n := rfl
@[simp] theorem State.withLink_image (x : LinkPort) (n : Nat) : (s.withLink x).image n = s.image n := rfl
@[simp] theorem State.withLink_outstanding (x : LinkPort) : (s.withLink x).outstanding = s.outstanding := rfl

/-! ### countChoice -/

@[simp] theorem State.countChoice_now : s.countChoice.now = s.now := rfl
@[simp] theorem State.countChoice_resetAsserted : s.countChoice.resetAsserted = s.resetAsserted := rfl
@[simp] theorem State.countChoice_upStrap : s.countChoice.upStrap = s.upStrap := rfl
@[simp] theorem State.countChoice_downStrap : s.countChoice.downStrap = s.downStrap := rfl
@[simp] theorem State.countChoice_line : s.countChoice.line = s.line := rfl
@[simp] theorem State.countChoice_sched : s.countChoice.sched = s.sched := rfl
@[simp] theorem State.countChoice_nodes : s.countChoice.nodes = s.nodes := rfl
@[simp] theorem State.countChoice_images : s.countChoice.images = s.images := rfl
@[simp] theorem State.countChoice_queue : s.countChoice.queue = s.queue := rfl
@[simp] theorem State.countChoice_bulk : s.countChoice.bulk = s.bulk := rfl
@[simp] theorem State.countChoice_notices : s.countChoice.notices = s.notices := rfl
@[simp] theorem State.countChoice_tables : s.countChoice.tables = s.tables := rfl
@[simp] theorem State.countChoice_link : s.countChoice.link = s.link := rfl
@[simp] theorem State.countChoice_choices : s.countChoice.choices = s.choices + 1 := rfl
@[simp] theorem State.countChoice_pending : s.countChoice.pending = s.pending := rfl

/-! ### Updates built from these -/

@[simp] theorem State.setNode_now (n : Nat) (r : NodeRt) : (s.setNode n r).now = s.now := rfl
@[simp] theorem State.setNode_resetAsserted (n : Nat) (r : NodeRt) : (s.setNode n r).resetAsserted = s.resetAsserted := rfl
@[simp] theorem State.setNode_upStrap (n : Nat) (r : NodeRt) : (s.setNode n r).upStrap = s.upStrap := rfl
@[simp] theorem State.setNode_downStrap (n : Nat) (r : NodeRt) : (s.setNode n r).downStrap = s.downStrap := rfl
@[simp] theorem State.setNode_line (n : Nat) (r : NodeRt) : (s.setNode n r).line = s.line := rfl
@[simp] theorem State.setNode_sched (n : Nat) (r : NodeRt) : (s.setNode n r).sched = s.sched := rfl
@[simp] theorem State.setNode_nodes (n : Nat) (r : NodeRt) : (s.setNode n r).nodes = bankSet s.nodes n r := rfl
@[simp] theorem State.setNode_images (n : Nat) (r : NodeRt) : (s.setNode n r).images = s.images := rfl
@[simp] theorem State.setNode_queue (n : Nat) (r : NodeRt) : (s.setNode n r).queue = s.queue := rfl
@[simp] theorem State.setNode_bulk (n : Nat) (r : NodeRt) : (s.setNode n r).bulk = s.bulk := rfl
@[simp] theorem State.setNode_notices (n : Nat) (r : NodeRt) : (s.setNode n r).notices = s.notices := rfl
@[simp] theorem State.setNode_tables (n : Nat) (r : NodeRt) : (s.setNode n r).tables = s.tables := rfl
@[simp] theorem State.setNode_link (n : Nat) (r : NodeRt) : (s.setNode n r).link = s.link := rfl
@[simp] theorem State.setNode_choices (n : Nat) (r : NodeRt) : (s.setNode n r).choices = s.choices := rfl
@[simp] theorem State.setNode_pending (n : Nat) (r : NodeRt) : (s.setNode n r).pending = s.pending := rfl

@[simp] theorem State.setImage_now (n : Nat) (i : Image) : (s.setImage n i).now = s.now := rfl
@[simp] theorem State.setImage_resetAsserted (n : Nat) (i : Image) : (s.setImage n i).resetAsserted = s.resetAsserted := rfl
@[simp] theorem State.setImage_upStrap (n : Nat) (i : Image) : (s.setImage n i).upStrap = s.upStrap := rfl
@[simp] theorem State.setImage_downStrap (n : Nat) (i : Image) : (s.setImage n i).downStrap = s.downStrap := rfl
@[simp] theorem State.setImage_line (n : Nat) (i : Image) : (s.setImage n i).line = s.line := rfl
@[simp] theorem State.setImage_sched (n : Nat) (i : Image) : (s.setImage n i).sched = s.sched := rfl
@[simp] theorem State.setImage_nodes (n : Nat) (i : Image) : (s.setImage n i).nodes = s.nodes := rfl
@[simp] theorem State.setImage_images (n : Nat) (i : Image) : (s.setImage n i).images = bankSet s.images n i := rfl
@[simp] theorem State.setImage_queue (n : Nat) (i : Image) : (s.setImage n i).queue = s.queue := rfl
@[simp] theorem State.setImage_bulk (n : Nat) (i : Image) : (s.setImage n i).bulk = s.bulk := rfl
@[simp] theorem State.setImage_notices (n : Nat) (i : Image) : (s.setImage n i).notices = s.notices := rfl
@[simp] theorem State.setImage_tables (n : Nat) (i : Image) : (s.setImage n i).tables = s.tables := rfl
@[simp] theorem State.setImage_link (n : Nat) (i : Image) : (s.setImage n i).link = s.link := rfl
@[simp] theorem State.setImage_choices (n : Nat) (i : Image) : (s.setImage n i).choices = s.choices := rfl
@[simp] theorem State.setImage_pending (n : Nat) (i : Image) : (s.setImage n i).pending = s.pending := rfl

@[simp] theorem State.setPhase_now (p : LinePhase) : (s.setPhase p).now = s.now := rfl
@[simp] theorem State.setPhase_resetAsserted (p : LinePhase) : (s.setPhase p).resetAsserted = s.resetAsserted := rfl
@[simp] theorem State.setPhase_upStrap (p : LinePhase) : (s.setPhase p).upStrap = s.upStrap := rfl
@[simp] theorem State.setPhase_downStrap (p : LinePhase) : (s.setPhase p).downStrap = s.downStrap := rfl
@[simp] theorem State.setPhase_line (p : LinePhase) : (s.setPhase p).line = { s.line with phase := p } := rfl
@[simp] theorem State.setPhase_sched (p : LinePhase) : (s.setPhase p).sched = s.sched := rfl
@[simp] theorem State.setPhase_nodes (p : LinePhase) : (s.setPhase p).nodes = s.nodes := rfl
@[simp] theorem State.setPhase_images (p : LinePhase) : (s.setPhase p).images = s.images := rfl
@[simp] theorem State.setPhase_queue (p : LinePhase) : (s.setPhase p).queue = s.queue := rfl
@[simp] theorem State.setPhase_bulk (p : LinePhase) : (s.setPhase p).bulk = s.bulk := rfl
@[simp] theorem State.setPhase_notices (p : LinePhase) : (s.setPhase p).notices = s.notices := rfl
@[simp] theorem State.setPhase_tables (p : LinePhase) : (s.setPhase p).tables = s.tables := rfl
@[simp] theorem State.setPhase_link (p : LinePhase) : (s.setPhase p).link = s.link := rfl
@[simp] theorem State.setPhase_choices (p : LinePhase) : (s.setPhase p).choices = s.choices := rfl
@[simp] theorem State.setPhase_pending (p : LinePhase) : (s.setPhase p).pending = s.pending := rfl

@[simp] theorem State.countLine_now (f : LineCounters → LineCounters) : (s.countLine f).now = s.now := rfl
@[simp] theorem State.countLine_resetAsserted (f : LineCounters → LineCounters) : (s.countLine f).resetAsserted = s.resetAsserted := rfl
@[simp] theorem State.countLine_upStrap (f : LineCounters → LineCounters) : (s.countLine f).upStrap = s.upStrap := rfl
@[simp] theorem State.countLine_downStrap (f : LineCounters → LineCounters) : (s.countLine f).downStrap = s.downStrap := rfl
@[simp] theorem State.countLine_line (f : LineCounters → LineCounters) : (s.countLine f).line = { s.line with counters := f s.line.counters } := rfl
@[simp] theorem State.countLine_sched (f : LineCounters → LineCounters) : (s.countLine f).sched = s.sched := rfl
@[simp] theorem State.countLine_nodes (f : LineCounters → LineCounters) : (s.countLine f).nodes = s.nodes := rfl
@[simp] theorem State.countLine_images (f : LineCounters → LineCounters) : (s.countLine f).images = s.images := rfl
@[simp] theorem State.countLine_queue (f : LineCounters → LineCounters) : (s.countLine f).queue = s.queue := rfl
@[simp] theorem State.countLine_bulk (f : LineCounters → LineCounters) : (s.countLine f).bulk = s.bulk := rfl
@[simp] theorem State.countLine_notices (f : LineCounters → LineCounters) : (s.countLine f).notices = s.notices := rfl
@[simp] theorem State.countLine_tables (f : LineCounters → LineCounters) : (s.countLine f).tables = s.tables := rfl
@[simp] theorem State.countLine_link (f : LineCounters → LineCounters) : (s.countLine f).link = s.link := rfl
@[simp] theorem State.countLine_choices (f : LineCounters → LineCounters) : (s.countLine f).choices = s.choices := rfl
@[simp] theorem State.countLine_pending (f : LineCounters → LineCounters) : (s.countLine f).pending = s.pending := rfl

@[simp] theorem State.offer_now (n : Notice) : (s.offer n).now = s.now := rfl
@[simp] theorem State.offer_resetAsserted (n : Notice) : (s.offer n).resetAsserted = s.resetAsserted := rfl
@[simp] theorem State.offer_upStrap (n : Notice) : (s.offer n).upStrap = s.upStrap := rfl
@[simp] theorem State.offer_downStrap (n : Notice) : (s.offer n).downStrap = s.downStrap := rfl
@[simp] theorem State.offer_line (n : Notice) : (s.offer n).line = s.line := rfl
@[simp] theorem State.offer_sched (n : Notice) : (s.offer n).sched = s.sched := rfl
@[simp] theorem State.offer_nodes (n : Notice) : (s.offer n).nodes = s.nodes := rfl
@[simp] theorem State.offer_images (n : Notice) : (s.offer n).images = s.images := rfl
@[simp] theorem State.offer_queue (n : Notice) : (s.offer n).queue = s.queue := rfl
@[simp] theorem State.offer_bulk (n : Notice) : (s.offer n).bulk = s.bulk := rfl
@[simp] theorem State.offer_notices (n : Notice) : (s.offer n).notices = s.notices.offer n := rfl
@[simp] theorem State.offer_tables (n : Notice) : (s.offer n).tables = s.tables := rfl
@[simp] theorem State.offer_link (n : Notice) : (s.offer n).link = s.link := rfl
@[simp] theorem State.offer_choices (n : Notice) : (s.offer n).choices = s.choices := rfl
@[simp] theorem State.offer_pending (n : Notice) : (s.offer n).pending = s.pending := rfl

@[simp] theorem State.queueReply_now (f : UpFrame) : (s.queueReply f).now = s.now := rfl
@[simp] theorem State.queueReply_resetAsserted (f : UpFrame) : (s.queueReply f).resetAsserted = s.resetAsserted := rfl
@[simp] theorem State.queueReply_upStrap (f : UpFrame) : (s.queueReply f).upStrap = s.upStrap := rfl
@[simp] theorem State.queueReply_downStrap (f : UpFrame) : (s.queueReply f).downStrap = s.downStrap := rfl
@[simp] theorem State.queueReply_line (f : UpFrame) : (s.queueReply f).line = s.line := rfl
@[simp] theorem State.queueReply_sched (f : UpFrame) : (s.queueReply f).sched = s.sched := rfl
@[simp] theorem State.queueReply_nodes (f : UpFrame) : (s.queueReply f).nodes = s.nodes := rfl
@[simp] theorem State.queueReply_images (f : UpFrame) : (s.queueReply f).images = s.images := rfl
@[simp] theorem State.queueReply_queue (f : UpFrame) : (s.queueReply f).queue = s.queue := rfl
@[simp] theorem State.queueReply_bulk (f : UpFrame) : (s.queueReply f).bulk = s.bulk := rfl
@[simp] theorem State.queueReply_notices (f : UpFrame) : (s.queueReply f).notices = s.notices := rfl
@[simp] theorem State.queueReply_tables (f : UpFrame) : (s.queueReply f).tables = s.tables := rfl
@[simp] theorem State.queueReply_link (f : UpFrame) : (s.queueReply f).link = { s.link with replies := s.link.replies ++ [f] } := rfl
@[simp] theorem State.queueReply_choices (f : UpFrame) : (s.queueReply f).choices = s.choices := rfl
@[simp] theorem State.queueReply_pending (f : UpFrame) : (s.queueReply f).pending = s.pending := rfl

@[simp] theorem State.answer_now (f : UpFrame) (r : Result) (c : List Byte) : (s.answer f r c).now = s.now := rfl
@[simp] theorem State.answer_resetAsserted (f : UpFrame) (r : Result) (c : List Byte) : (s.answer f r c).resetAsserted = s.resetAsserted := rfl
@[simp] theorem State.answer_upStrap (f : UpFrame) (r : Result) (c : List Byte) : (s.answer f r c).upStrap = s.upStrap := rfl
@[simp] theorem State.answer_downStrap (f : UpFrame) (r : Result) (c : List Byte) : (s.answer f r c).downStrap = s.downStrap := rfl
@[simp] theorem State.answer_line (f : UpFrame) (r : Result) (c : List Byte) : (s.answer f r c).line = s.line := rfl
@[simp] theorem State.answer_sched (f : UpFrame) (r : Result) (c : List Byte) : (s.answer f r c).sched = s.sched := rfl
@[simp] theorem State.answer_nodes (f : UpFrame) (r : Result) (c : List Byte) : (s.answer f r c).nodes = s.nodes := rfl
@[simp] theorem State.answer_images (f : UpFrame) (r : Result) (c : List Byte) : (s.answer f r c).images = s.images := rfl
@[simp] theorem State.answer_queue (f : UpFrame) (r : Result) (c : List Byte) : (s.answer f r c).queue = s.queue := rfl
@[simp] theorem State.answer_bulk (f : UpFrame) (r : Result) (c : List Byte) : (s.answer f r c).bulk = s.bulk := rfl
@[simp] theorem State.answer_notices (f : UpFrame) (r : Result) (c : List Byte) : (s.answer f r c).notices = s.notices := rfl
@[simp] theorem State.answer_tables (f : UpFrame) (r : Result) (c : List Byte) : (s.answer f r c).tables = s.tables := rfl
@[simp] theorem State.answer_link (f : UpFrame) (r : Result) (c : List Byte) : (s.answer f r c).link = { s.link with replies := s.link.replies ++ [replyFrame f.addr f.cmd f.tag r c] } := rfl
@[simp] theorem State.answer_choices (f : UpFrame) (r : Result) (c : List Byte) : (s.answer f r c).choices = s.choices := rfl
@[simp] theorem State.answer_pending (f : UpFrame) (r : Result) (c : List Byte) : (s.answer f r c).pending = s.pending := rfl

@[simp] theorem State.setRx_now (r : RxPhase) : (s.setRx r).now = s.now := rfl
@[simp] theorem State.setRx_resetAsserted (r : RxPhase) : (s.setRx r).resetAsserted = s.resetAsserted := rfl
@[simp] theorem State.setRx_upStrap (r : RxPhase) : (s.setRx r).upStrap = s.upStrap := rfl
@[simp] theorem State.setRx_downStrap (r : RxPhase) : (s.setRx r).downStrap = s.downStrap := rfl
@[simp] theorem State.setRx_line (r : RxPhase) : (s.setRx r).line = s.line := rfl
@[simp] theorem State.setRx_sched (r : RxPhase) : (s.setRx r).sched = s.sched := rfl
@[simp] theorem State.setRx_nodes (r : RxPhase) : (s.setRx r).nodes = s.nodes := rfl
@[simp] theorem State.setRx_images (r : RxPhase) : (s.setRx r).images = s.images := rfl
@[simp] theorem State.setRx_queue (r : RxPhase) : (s.setRx r).queue = s.queue := rfl
@[simp] theorem State.setRx_bulk (r : RxPhase) : (s.setRx r).bulk = s.bulk := rfl
@[simp] theorem State.setRx_notices (r : RxPhase) : (s.setRx r).notices = s.notices := rfl
@[simp] theorem State.setRx_tables (r : RxPhase) : (s.setRx r).tables = s.tables := rfl
@[simp] theorem State.setRx_link (r : RxPhase) : (s.setRx r).link = { s.link with rx := r } := rfl
@[simp] theorem State.setRx_choices (r : RxPhase) : (s.setRx r).choices = s.choices := rfl
@[simp] theorem State.setRx_pending (r : RxPhase) : (s.setRx r).pending = s.pending := rfl

@[simp] theorem State.countLink_now (f : LinkCounters → LinkCounters) : (s.countLink f).now = s.now := rfl
@[simp] theorem State.countLink_resetAsserted (f : LinkCounters → LinkCounters) : (s.countLink f).resetAsserted = s.resetAsserted := rfl
@[simp] theorem State.countLink_upStrap (f : LinkCounters → LinkCounters) : (s.countLink f).upStrap = s.upStrap := rfl
@[simp] theorem State.countLink_downStrap (f : LinkCounters → LinkCounters) : (s.countLink f).downStrap = s.downStrap := rfl
@[simp] theorem State.countLink_line (f : LinkCounters → LinkCounters) : (s.countLink f).line = s.line := rfl
@[simp] theorem State.countLink_sched (f : LinkCounters → LinkCounters) : (s.countLink f).sched = s.sched := rfl
@[simp] theorem State.countLink_nodes (f : LinkCounters → LinkCounters) : (s.countLink f).nodes = s.nodes := rfl
@[simp] theorem State.countLink_images (f : LinkCounters → LinkCounters) : (s.countLink f).images = s.images := rfl
@[simp] theorem State.countLink_queue (f : LinkCounters → LinkCounters) : (s.countLink f).queue = s.queue := rfl
@[simp] theorem State.countLink_bulk (f : LinkCounters → LinkCounters) : (s.countLink f).bulk = s.bulk := rfl
@[simp] theorem State.countLink_notices (f : LinkCounters → LinkCounters) : (s.countLink f).notices = s.notices := rfl
@[simp] theorem State.countLink_tables (f : LinkCounters → LinkCounters) : (s.countLink f).tables = s.tables := rfl
@[simp] theorem State.countLink_link (f : LinkCounters → LinkCounters) : (s.countLink f).link = { s.link with counters := f s.link.counters } := rfl
@[simp] theorem State.countLink_choices (f : LinkCounters → LinkCounters) : (s.countLink f).choices = s.choices := rfl
@[simp] theorem State.countLink_pending (f : LinkCounters → LinkCounters) : (s.countLink f).pending = s.pending := rfl

@[simp] theorem State.charArrived_now : s.charArrived.now = s.now := rfl
@[simp] theorem State.charArrived_resetAsserted : s.charArrived.resetAsserted = s.resetAsserted := rfl
@[simp] theorem State.charArrived_upStrap : s.charArrived.upStrap = s.upStrap := rfl
@[simp] theorem State.charArrived_downStrap : s.charArrived.downStrap = s.downStrap := rfl
@[simp] theorem State.charArrived_line : s.charArrived.line = { s.line with charIn := false, charForeign := false, quietSince := s.now } := rfl
@[simp] theorem State.charArrived_sched : s.charArrived.sched = s.sched := rfl
@[simp] theorem State.charArrived_nodes : s.charArrived.nodes = s.nodes := rfl
@[simp] theorem State.charArrived_images : s.charArrived.images = s.images := rfl
@[simp] theorem State.charArrived_queue : s.charArrived.queue = s.queue := rfl
@[simp] theorem State.charArrived_bulk : s.charArrived.bulk = s.bulk := rfl
@[simp] theorem State.charArrived_notices : s.charArrived.notices = s.notices := rfl
@[simp] theorem State.charArrived_tables : s.charArrived.tables = s.tables := rfl
@[simp] theorem State.charArrived_link : s.charArrived.link = s.link := rfl
@[simp] theorem State.charArrived_choices : s.charArrived.choices = s.choices := rfl
@[simp] theorem State.charArrived_pending : s.charArrived.pending = s.pending := rfl

end Sys2Proof.Machine
end

