-- ==== Sys2Proof/Laws/Ops.lean ====
section
/-! SUPPORT. What each shared operation can do, said once: banks, frames taken, the transmitter, the line. -/

namespace Sys2Proof.Machine

/-! ### Banks of 30 records -/

/-- A node's record in a bank made by `tabulate`. -/
theorem bankGet_tabulate {α : Type} (f : Nat → α) (d : α) {n : Nat} (h1 : 1 ≤ n) (h30 : n ≤ 30) :
    bankGet (tabulate f) d n = f n := by
  obtain ⟨k, rfl⟩ : ∃ k, n = k + 1 := ⟨n - 1, by omega⟩
  have hk : k < 30 := by omega
  simp [bankGet, tabulate, hk]

/-- A node's record after its own was replaced. -/
theorem bankGet_bankSet_same {α : Type} (v : Vector α 30) (d x : α) {n : Nat} (h1 : 1 ≤ n) (h30 : n ≤ 30) :
    bankGet (bankSet v n x) d n = x := by
  obtain ⟨k, rfl⟩ : ∃ k, n = k + 1 := ⟨n - 1, by omega⟩
  have hk : k < 30 := by omega
  simp [bankGet, bankSet, hk]

/-- A node's record after another's was replaced. -/
theorem bankGet_bankSet_other {α : Type} (v : Vector α 30) (d x : α) {m n : Nat} (h : m ≠ n) :
    bankGet (bankSet v m x) d n = bankGet v d n := by
  cases m with
  | zero => rfl
  | succ j =>
    cases n with
    | zero => rfl
    | succ k =>
      have : j ≠ k := by omega
      simp only [bankGet, bankSet]
      rw [Vector.getElem?_setIfInBounds_ne this]

/-! ### Frames taken (R83, R167 to R169, R174) -/

/-- A counted frame is a heard one. -/
theorem State.frameCounted_eq_heard (s : State) : s.frameCounted = s.heard := rfl

/-- Where both a value and a count may be bad the answer is open, but whether there is one is not. -/
theorem payloadRefusal_isNone (a b : Bool) (cmd : Byte) (p : List Byte) :
    (payloadRefusal a cmd p).isNone = (payloadRefusal b cmd p).isNone := by
  simp only [payloadRefusal, Command.fieldRefusal]
  cases Command.ofCode cmd with
  | none => rfl
  | some c =>
    simp only []
    split
    · cases c.optionBad p <;> cases c.valueBad p <;> cases c.countBad p <;> rfl
    · rfl

/-- A frame passes the dispatch whichever way the open choice falls, or neither way. -/
theorem dispatchRefusal_none (a b : Bool) {addr cmd : Byte} {p : List Byte}
    (h : (dispatchRefusal a addr cmd p).isNone = true) : dispatchRefusal b addr cmd p = none := by
  simp only [dispatchRefusal] at h ⊢
  cases haddr : addressRefusal addr cmd with
  | some r => simp [haddr] at h
  | none =>
    simp only [haddr] at h ⊢
    rw [payloadRefusal_isNone a b] at h
    exact Option.isNone_iff_eq_none.mp h

/-- A frame that is accepted is handed to its owner. -/
theorem State.takeFrame_accepts {s : State} {f : UpFrame} (m : String) (handle : State → Out)
    (h : s.accepts f = true) : s.takeFrame m f handle = closeOut (handle s.heard) := by
  simp only [State.accepts, State.dispatches, Bool.and_eq_true, Bool.not_eq_true', bne_iff_ne, ne_eq] at h
  obtain ⟨⟨⟨⟨⟨hr, hf⟩, hp⟩, hs⟩, hd⟩, ht⟩ := h
  have hd' := dispatchRefusal_none true (Config.badValueFirst s.choices) hd
  have hp' : s.link.restartPending.isSome = false := by
    cases h : s.link.restartPending <;> simp_all
  unfold State.takeFrame
  rw [if_neg (by simp [hr]), if_neg (by simp [hf])]
  have e1 : s.frameCounted.link.restartPending = s.link.restartPending := rfl
  have e2 : s.frameCounted.freeSlots = s.freeSlots := rfl
  have e3 : s.frameCounted.choices = s.choices := rfl
  have e4 : s.frameCounted.outstanding = s.outstanding := rfl
  simp only [e1, e2, e3, e4, hp', hd', ht]
  rw [if_neg (by simp [hs])]
  rfl

/-- A frame that finds no free slot, or a restart pending, is counted and discarded (R168, R174). -/
theorem State.takeFrame_discards {s : State} {f : UpFrame} (m : String) (handle : State → Out)
    (hr : s.resetAsserted = false) (hf : s.frameFits f = true)
    (h : s.link.restartPending.isSome = true ∨ s.freeSlots = 0) :
    s.takeFrame m f handle = .next s.heard.discarded := by
  unfold State.takeFrame
  rw [if_neg (by simp [hr]), if_neg (by simp [hf])]
  have e1 : s.frameCounted.link.restartPending = s.link.restartPending := rfl
  have e2 : s.frameCounted.freeSlots = s.freeSlots := rfl
  simp only [e1, e2]
  rw [if_pos (by rcases h with h | h <;> simp [h])]
  rfl

/-! ### The transmitter (R171) -/

/-- A transmitter that is sending takes nothing. -/
theorem State.wake_sending {s : State} (h : s.link.tx ≠ .idle) : s.wake = s := by
  simp [State.wake, h]

/-- A settled transmitter has nothing to take. -/
theorem State.wake_settled {s : State} (h : s.txSettled = true) : s.wake = s := by
  simp only [State.txSettled, Bool.or_eq_true, bne_iff_ne, ne_eq, Bool.and_eq_true, Bool.not_eq_true',
    beq_iff_eq] at h
  rcases h with (h | h) | ⟨⟨h1, h2⟩, h3⟩
  · exact State.wake_sending h
  · simp [State.wake, h]
  · by_cases hb : (s.link.tx != .idle || s.resetAsserted) = true
    · simp only [State.wake]
      rw [if_pos hb]
    · simp only [State.wake]
      rw [if_neg hb]
      simp only [h1, h2, Bool.false_and, State.txNext, Bool.false_eq_true, if_false, Bool.not_true]
      rw [← h3]
      rfl

/-- An immediate answer at a settled transmitter, in a state that differs from `s` once its frame is heard
in neither the link port nor the notices. -/
theorem State.wake_answer {s u : State} (f : UpFrame) (r : Result) (c : List Byte)
    (hs : s.txSettled = true) (hreset : s.resetAsserted = false) (hlink : u.link = s.heard.link)
    (hnot : u.notices = s.notices) (hu : u.resetAsserted = false) :
    (u.answer f r c).wake = { u with link := (s.answered f r c).link } := by
  by_cases hi : s.link.tx = .idle
  · simp only [State.txSettled, hi, hreset, Bool.or_eq_true, Bool.and_eq_true, Bool.not_eq_true',
      beq_iff_eq, bne_self_eq_false, Bool.false_eq_true, false_or] at hs
    obtain ⟨⟨h1, h2⟩, h3⟩ := hs
    have h2' : s.link.replies = [] := by simpa using h2
    have hlt : u.link.tx = .idle := by rw [hlink]; exact hi
    have hn : (u.answer f r c).noticeTakable = false := by
      have : (u.answer f r c).noticeTakable = s.noticeTakable := by
        simp [State.noticeTakable, hnot, hlink, State.heard]
      rw [this, h1]
    simp only [State.wake]
    rw [if_neg (by simp [hlt, hu])]
    simp only [hn, Bool.false_and, State.txNext, Bool.false_eq_true, if_false]
    rw [if_pos (by simp)]
    simp only [State.takeReply, State.answer, State.reply, State.queueReply, State.withLink, hlink,
      State.answered, State.heard, replyFrame, hi, if_true]
  · have hlt : (u.answer f r c).link.tx ≠ .idle := by
      simp only [State.answer_link, hlink]
      exact hi
    rw [State.wake_sending hlt]
    simp only [State.answer, State.reply, State.queueReply, State.withLink, hlink, State.answered,
      State.heard, replyFrame, hi, if_false]

/-! ### The line controller (R28) -/

/-- An acceptance changes the phase and the direction alone. -/
theorem State.acceptOrder_line (s : State) (o : Order) :
    s.acceptOrder o = s.withLine { s.line with
      phase := (s.acceptOrder o).line.phase, direction := (s.acceptOrder o).line.direction } := by
  unfold State.acceptOrder
  split
  · rfl
  · split <;> rfl

/-! ### Offers (R142) -/

/-- An offer joins, is appended, or is lost; the notice in flight and the sequence stay. -/
theorem NoticeQueue.offer_cases (q : NoticeQueue) (n : Notice) :
    (∃ ws, joinWaiting n q.waiting = some ws ∧ q.offer n = { q with waiting := ws }) ∨
    (joinWaiting n q.waiting = none ∧ q.depth < 24 ∧ q.offer n = { q with waiting := q.waiting ++ [n] }) ∨
    (joinWaiting n q.waiting = none ∧ 24 ≤ q.depth ∧
      q.offer n = { q with
        lost := satInc q.lost
        overflowPending := q.overflowPending || !q.overflowWaiting }) := by
  unfold NoticeQueue.offer
  cases h : joinWaiting n q.waiting with
  | some ws => exact .inl ⟨ws, rfl, rfl⟩
  | none =>
    refine .inr ?_
    by_cases hd : q.depth < maxNotices
    · exact .inl ⟨rfl, hd, by simp [hd]⟩
    · exact .inr ⟨rfl, by simpa [maxNotices] using hd, by simp [hd]⟩

/-- A joining offer keeps how many notices wait. -/
theorem joinWaiting_length {n : Notice} {l ws : List Notice} (h : joinWaiting n l = some ws) :
    ws.length = l.length := by
  induction l generalizing ws with
  | nil => simp [joinWaiting] at h
  | cons w l ih =>
    simp only [joinWaiting] at h
    split at h
    · simp_all only [Option.some.injEq]
      subst h
      rfl
    · obtain ⟨ws', h1, rfl⟩ := Option.map_eq_some_iff.mp h
      simp [ih h1]

/-! ### The walk (R5 to R8) -/

/-- The fields a move of the walk leaves alone. -/
theorem State.walkMove_frame (s : State) :
    s.walkMove.1 = { s with
      sched := s.walkMove.1.sched, nodes := s.walkMove.1.nodes, notices := s.walkMove.1.notices } := by
  unfold State.walkMove
  split
  · split <;> rfl
  · simp only []
    split
    · split <;> rfl
    · split
      · simp only [State.cycleBoundary]
        split <;> rfl
      · split <;> rfl

/-- Two moves in a row leave alone what each leaves alone. -/
theorem walk_frame_trans {s t u : State}
    (h1 : t = { s with sched := t.sched, nodes := t.nodes, notices := t.notices })
    (h2 : u = { t with sched := u.sched, nodes := u.nodes, notices := u.notices }) :
    u = { s with sched := u.sched, nodes := u.nodes, notices := u.notices } := by
  cases s
  cases t
  cases u
  simp only [State.mk.injEq] at h1 h2 ⊢
  simp_all

/-- The fields the walk leaves alone. -/
theorem walkMoves_frame (k : Nat) (s : State) :
    walkMoves k s = { s with
      sched := (walkMoves k s).sched, nodes := (walkMoves k s).nodes, notices := (walkMoves k s).notices } := by
  induction k generalizing s with
  | zero => rfl
  | succ k ih =>
    simp only [walkMoves]
    split
    · exact walk_frame_trans s.walkMove_frame (ih _)
    · exact s.walkMove_frame

/-- The walk changes the scheduler, probe countdowns of the node table, and notices; nothing else. -/
theorem State.walk_frame (s : State) :
    s.walk = { s with sched := s.walk.sched, nodes := s.walk.nodes, notices := s.walk.notices } := by
  unfold State.walk
  split
  · exact walkMoves_frame _ s
  · rfl

end Sys2Proof.Machine
end

