-- ==== Sys2Proof/Laws/Event.lean ====
section
/-! SUPPORT. What an arbitration leaves, and what the end of an event does, said once (R121 to R123, R161). -/

namespace Sys2Proof.Machine

/-! ### An order takes the line out of IDLE (R121) -/

theorem State.acceptOrder_busy (s : State) (o : Order) : (s.acceptOrder o).line.phase.isIdle = false := by
  unfold State.acceptOrder
  split
  · rfl
  · split <;> rfl

theorem State.orderHead_busy {s : State} {c : QueueClass} (h : s.headWant c = true) :
    (s.orderHead c).line.phase.isIdle = false := by
  unfold State.orderHead
  cases hq : s.queue.fifo c with
  | nil => simp [State.headWant, hq] at h
  | cons e rest => exact State.acceptOrder_busy _ _

theorem State.orderSchedule_busy {s : State} (h : s.scheduleWant = true) :
    s.orderSchedule.line.phase.isIdle = false := by
  unfold State.orderSchedule
  cases hr : s.sched.ready with
  | some st => exact State.acceptOrder_busy _ _
  | none =>
    cases ha : s.sched.attached with
    | some a => exact State.acceptOrder_busy _ _
    | none => simp [State.scheduleWant, hr, ha] at h

/-! ### One arbitration (R122, R123) -/

/-- Places 4 and 5: the line is taken, or nothing changes, and with no schedule want neither place has one. -/
theorem State.arbitrateLow_cases (s : State) :
    (s.arbitrateLow.2 = true ∧ s.arbitrateLow.1.line.phase.isIdle = false) ∨
    (s.arbitrateLow = (s, false) ∧
      (s.scheduleWant = false → s.segmentWant = false ∧ s.headWant .normal = false)) := by
  unfold State.arbitrateLow
  split
  · exact .inl ⟨rfl, State.acceptOrder_busy _ _⟩
  · rename_i h1
    split
    · rename_i h2
      simp only [Bool.and_eq_true] at h2
      exact .inl ⟨rfl, State.orderHead_busy (s := s.withSched _) h2.1⟩
    · rename_i h2
      refine .inr ⟨rfl, fun hw => ?_⟩
      simp only [State.segmentAllowed, State.normalAllowed, State.restricts, hw] at h1 h2
      simpa using And.intro h1 h2

/-- Places 1 to 5: the line is taken, or at most a cancel is dropped, and with no schedule want no want is
left. -/
theorem State.arbitrateFive_cases (s : State) :
    (s.arbitrateFive.2 = true ∧ s.arbitrateFive.1.line.phase.isIdle = false) ∨
    (s.arbitrateFive.2 = false ∧
      (s.arbitrateFive.1 = s ∨ s.arbitrateFive.1 = s.withBulk { s.bulk with cancel := none }) ∧
      (s.scheduleWant = false → s.arbitrateFive.1.anyWant = false)) := by
  unfold State.arbitrateFive
  split
  · exact .inl ⟨rfl, State.acceptOrder_busy _ _⟩
  · rename_i h1
    split
    · rename_i h2
      exact .inl ⟨rfl, State.orderHead_busy h2⟩
    · rename_i h2
      simp only [Bool.not_eq_true] at h1 h2
      cases hc : s.bulk.cancel with
      | none =>
        rcases s.arbitrateLow_cases with h | ⟨h, hn⟩
        · exact .inl h
        · refine .inr ⟨by simp [h], .inl (by simp [h]), fun hw => ?_⟩
          simp [h, State.anyWant, h1, h2, State.cancelWant, hc, hn hw, hw]
      | some c =>
        simp only []
        split
        · split
          · exact .inl ⟨rfl, State.acceptOrder_busy _ _⟩
          · rcases (s.withBulk { s.bulk with cancel := none }).arbitrateLow_cases with h | ⟨h, hn⟩
            · exact .inl h
            · refine .inr ⟨by simp [h], .inr (by simp [h]), fun hw => ?_⟩
              have hw' : (s.withBulk { s.bulk with cancel := none }).scheduleWant = false := hw
              have e1 : (s.withBulk { s.bulk with cancel := none }).headWant .urgent = false := h2
              simp [h, State.anyWant, h1, e1, State.cancelWant, hn hw', hw']
        · rename_i h3
          rcases s.arbitrateLow_cases with h | ⟨h, hn⟩
          · exact .inl h
          · refine .inr ⟨by simp [h], .inl (by simp [h]), fun hw => ?_⟩
            simp [h, State.anyWant, h1, h2, State.cancelWant, h3, hn hw, hw]

/-- After an arbitration the line is taken or no want is present. -/
theorem State.arbitrate_cases (s : State) :
    s.arbitrate.line.phase.isIdle = false ∨ s.arbitrate.anyWant = false := by
  have keep {u : State} (h : u = s ∨ u = s.withBulk { s.bulk with cancel := none }) :
      u.scheduleWant = s.scheduleWant := by
    rcases h with rfl | rfl <;> rfl
  unfold State.arbitrate
  rcases s.arbitrateFive_cases with ⟨h1, h2⟩ | ⟨h1, h2, h3⟩
  · exact .inl (by simp [h1, h2])
  · simp only [h1, Bool.false_eq_true, if_false]
    split
    · rename_i hw
      simp only [Bool.not_eq_true', keep h2] at hw
      exact .inr (h3 hw)
    · rename_i hw
      simp only [Bool.not_eq_true', Bool.not_eq_false] at hw
      split
      · exact .inl (State.orderSchedule_busy hw)
      · split
        · rename_i hw2
          exact .inl (State.orderSchedule_busy hw2)
        · rename_i hw2
          simp only [Bool.not_eq_true] at hw2
          rcases s.arbitrateFive.1.dropSchedule.arbitrateFive_cases with ⟨_, h5⟩ | ⟨_, _, h6⟩
          · exact .inl h5
          · exact .inr (h6 hw2)

/-- An arbitration leaves none due. -/
theorem State.arbitrate_not_due (s : State) : s.arbitrate.arbitrationDue = false := by
  rcases s.arbitrate_cases with h | h <;> simp [State.arbitrationDue, h]

/-! ### What arbitration and application do to the commit state -/

theorem State.acceptOrder_tables (s : State) (o : Order) : (s.acceptOrder o).tables = s.tables := by
  rw [State.acceptOrder_line]
  rfl

theorem State.walk_tables (s : State) : s.walk.tables = s.tables := by
  rw [State.walk_frame]

theorem State.orderHead_tables (s : State) (c : QueueClass) : (s.orderHead c).tables = s.tables := by
  unfold State.orderHead
  cases hq : s.queue.fifo c with
  | nil => rfl
  | cons e rest => simp [State.acceptOrder_tables, State.setHead, hq]

theorem State.arbitrateLow_tables (s : State) : s.arbitrateLow.1.tables = s.tables := by
  unfold State.arbitrateLow
  split
  · simp [State.orderSegment, State.acceptOrder_tables]
  · split
    · simp [State.orderNormal, State.orderHead_tables]
    · rfl

theorem State.arbitrateFive_tables (s : State) : s.arbitrateFive.1.tables = s.tables := by
  unfold State.arbitrateFive
  split
  · simp [State.orderSafe, State.acceptOrder_tables]
  · split
    · exact State.orderHead_tables _ _
    · split
      · split
        · split
          · simp [State.orderCancel, State.acceptOrder_tables]
          · simp [State.arbitrateLow_tables]
        · exact State.arbitrateLow_tables _
      · exact State.arbitrateLow_tables _

theorem State.orderSchedule_tables (s : State) : s.orderSchedule.tables = s.tables := by
  unfold State.orderSchedule
  split
  · simp only [State.orderStep, State.acceptOrder_tables, State.withSched_tables, State.loadCountdown]
    split <;> rfl
  · simp [State.orderStepRetry, State.acceptOrder_tables]
  · rfl

theorem State.dropSchedule_tables (s : State) : s.dropSchedule.tables = s.tables := by
  unfold State.dropSchedule
  split
  · simp [State.dropReady, State.walk_tables]
  · simp [State.stepFinal, State.walk_tables]
  · rfl

/-- An arbitration leaves the tables and the commit state alone. -/
theorem State.arbitrate_tables (s : State) : s.arbitrate.tables = s.tables := by
  unfold State.arbitrate
  simp only []
  split
  · exact s.arbitrateFive_tables
  · split
    · exact s.arbitrateFive_tables
    · split
      · rw [State.orderSchedule_tables, s.arbitrateFive_tables]
      · split
        · rw [State.orderSchedule_tables, State.dropSchedule_tables, s.arbitrateFive_tables]
        · rw [State.arbitrateFive_tables, State.dropSchedule_tables, s.arbitrateFive_tables]

theorem State.bulkApplied_tables (s : State) (old : TableSet) : (s.bulkApplied old).tables = s.tables := by
  unfold State.bulkApplied
  simp only []
  split <;> rfl

theorem State.applicationOffers_tables (s : State) (old : TableSet) :
    (s.applicationOffers old).tables = s.tables := by
  unfold State.applicationOffers
  simp only []
  split
  · split
    · simp [State.offer, State.bulkApplied_tables, State.countChoice]
    · simp [State.offer, State.bulkApplied_tables, State.countChoice]
  · simp [State.offer, State.bulkApplied_tables]

/-- An application leaves the shadow active, the commit state NONE and the generation one higher (R162). -/
theorem State.apply_tables (s : State) : s.apply.tables = s.tables.applied := by
  simp only [State.apply, State.scheduleRestart, State.walk_tables, State.withSched_tables,
    State.silenceApplied, State.withLink_tables, State.applicationOffers_tables]
  rfl

/-! ### The end of an event (R121, R161) -/

theorem State.decided_iff (s : State) :
    s.decided = true ↔ s.arbitrationDue = false ∧ s.applicationDue = false := by
  simp [State.decided]

/-- With nothing due no turn changes anything. -/
theorem State.turn_decided {s : State} (h : s.decided = true) : s.turn = s := by
  obtain ⟨h1, h2⟩ := s.decided_iff.mp h
  simp [State.turn, h1, h2]

theorem State.settle_of_decided {s : State} (h : s.decided = true) : s.settle = s := by
  simp [State.settle, State.turn_decided h]

theorem State.follow_of_decided {s : State} (h : s.decided = true) : s.follow = s.wake := by
  simp [State.follow, State.settle_of_decided h]

/-- No application is due with no commit pending. -/
theorem State.applicationDue_none {s : State} (h : s.tables.commitPending = false) :
    s.applicationDue = false := by
  simp [State.applicationDue, h]

/-- A turn with no commit pending leaves nothing due. -/
theorem State.turn_decides_of_none {s : State} (h : s.tables.commitPending = false) :
    s.turn.decided = true := by
  have ha := State.applicationDue_none h
  by_cases hd : s.arbitrationDue = true
  · have : s.turn = s.arbitrate := by simp [State.turn, ha, hd]
    rw [this, State.decided_iff]
    refine ⟨s.arbitrate_not_due, State.applicationDue_none ?_⟩
    rw [s.arbitrate_tables, h]
  · simp only [Bool.not_eq_true] at hd
    have : s.turn = s := by simp [State.turn, ha, hd]
    rw [this, State.decided_iff]
    exact ⟨hd, ha⟩

/-- Two turns from a state with no arbitration due leave nothing due. -/
theorem State.turn_turn_decides {s : State} (h : s.arbitrationDue = false) : s.turn.turn.decided = true := by
  by_cases ha : s.applicationDue = true
  · have : s.turn = s.apply := by simp [State.turn, ha, h]
    rw [this]
    exact State.turn_decides_of_none (by rw [State.apply_tables]; rfl)
  · simp only [Bool.not_eq_true] at ha
    have hd := s.decided_iff.mpr ⟨h, ha⟩
    rw [State.turn_decided hd, State.turn_decided hd]
    exact hd

/-- After all that is due is taken, nothing is due. -/
theorem State.settle_decided (s : State) : s.settle.decided = true := by
  have applied (u : State) : u.apply.turn.turn.decided = true := by
    have h := State.turn_decides_of_none (s := u.apply) (by rw [State.apply_tables]; rfl)
    rw [State.turn_decided h]
    exact h
  unfold State.settle
  by_cases ha : s.applicationDue = true <;> by_cases hd : s.arbitrationDue = true
  · have : s.turn = s.countChoice.apply ∨ s.turn = s.countChoice.arbitrate := by
      simp only [State.turn, ha, hd, Bool.and_self, if_true]
      by_cases hc : Config.applicationFirst s.choices = true <;> simp [hc]
    rcases this with h | h <;> rw [h]
    · exact applied _
    · exact State.turn_turn_decides (State.arbitrate_not_due _)
  · simp only [Bool.not_eq_true] at hd
    have : s.turn = s.apply := by simp [State.turn, ha, hd]
    rw [this]
    exact applied _
  · simp only [Bool.not_eq_true] at ha
    have : s.turn = s.arbitrate := by simp [State.turn, ha, hd]
    rw [this]
    exact State.turn_turn_decides s.arbitrate_not_due
  · simp only [Bool.not_eq_true] at ha hd
    have h := s.decided_iff.mpr ⟨hd, ha⟩
    rw [State.turn_decided h, State.turn_decided h, State.turn_decided h]
    exact h

/-- Whether anything is due depends on the line's phase, the scheduler, the queue, the transfer and the commit
state alone. -/
theorem State.decided_congr {s t : State} (h1 : t.line.phase = s.line.phase) (h2 : t.sched = s.sched)
    (h3 : t.queue = s.queue) (h4 : t.bulk = s.bulk) (h5 : t.tables = s.tables) : t.decided = s.decided := by
  simp only [State.decided, State.arbitrationDue, State.applicationDue, State.anyWant, State.headWant,
    State.cancelWant, State.segmentWant, State.scheduleWant, h1, h2, h3, h4, h5]

/-- The transmitter's choice changes the notices and the link port alone, and counts a free choice. -/
theorem State.wake_frame (s : State) :
    s.wake = { s with notices := s.wake.notices, link := s.wake.link, choices := s.wake.choices } := by
  have take (u : State) : u.takeNotice =
      { u with notices := u.takeNotice.notices, link := u.takeNotice.link, choices := u.takeNotice.choices } := by
    unfold State.takeNotice
    split <;> rfl
  unfold State.wake State.txNext
  split
  · rfl
  · split
    · split
      · exact take s.countChoice
      · rfl
    · split
      · exact take s
      · split <;> rfl

theorem State.wake_decided (s : State) : s.wake.decided = s.decided := by
  rw [State.wake_frame]
  exact State.decided_congr rfl rfl rfl rfl rfl

/-- The end of every event leaves nothing due. -/
theorem State.close_decided (s : State) : s.close.decided = true := by
  rw [State.close, State.follow, State.wake_decided]
  exact State.settle_decided _

/-- With nothing due the end of an event is the transmitter's choice. -/
theorem State.close_of_decided {s : State} (h : s.decided = true) : s.close = s.wake.wake := by
  rw [State.close, State.follow_of_decided (by rw [State.wake_decided]; exact h)]

/-- The transmitter of an answered request is sending. -/
theorem State.answered_busy (s : State) (f : UpFrame) (r : Result) (c : List Byte) :
    (s.answered f r c).link.tx ≠ .idle := by
  simp only [State.answered]
  split
  · simp
  · assumption

/-- An immediate answer at a settled transmitter, in a state that differs from `s` once its frame is heard in
neither the link port nor the notices: the reply is taken, and then all that is due. -/
theorem State.close_answer {s u : State} (f : UpFrame) (r : Result) (c : List Byte)
    (hs : s.txSettled = true) (hreset : s.resetAsserted = false) (hlink : u.link = s.heard.link)
    (hnot : u.notices = s.notices) (hu : u.resetAsserted = false) :
    (u.answer f r c).close = ({ u with link := (s.answered f r c).link } : State).follow := by
  rw [State.close, State.wake_answer f r c hs hreset hlink hnot hu]

/-- Such an answer with nothing due. -/
theorem State.close_answer_decided {s u : State} (f : UpFrame) (r : Result) (c : List Byte)
    (hs : s.txSettled = true) (hreset : s.resetAsserted = false) (hlink : u.link = s.heard.link)
    (hnot : u.notices = s.notices) (hu : u.resetAsserted = false) (hd : u.decided = true) :
    (u.answer f r c).close = { u with link := (s.answered f r c).link } := by
  rw [State.close_answer f r c hs hreset hlink hnot hu, State.follow_of_decided, State.wake_sending]
  · exact s.answered_busy f r c
  · rw [← hd]
    exact State.decided_congr rfl rfl rfl rfl rfl

end Sys2Proof.Machine
end

