-- ==== Sys2Proof/Laws/Memory.lean ====
section
/-! SUPPORT. The transfer buffer: a read after a write, and the canonical form kept by every operation. -/

namespace Sys2Proof.Machine

@[simp] theorem Memory.read_nil (a : Nat) : Memory.read [] a = 0 := rfl

/-- The canonical form, unfolded. -/
theorem Memory.wf_iff (m : Memory) :
    m.wf = true ↔ m.Pairwise (fun c d => c.1 < d.1) ∧ ∀ c ∈ m, c.2 ≠ 0 ∧ c.1 < bufferSize := by
  simp [Memory.wf]

/-- The cells below a cell of a canonical memory have smaller addresses than the cells after it. -/
theorem Memory.wf_cons {c : Host.Cell} {m : Memory} :
    Memory.wf (c :: m) = true ↔
      (∀ d ∈ m, c.1 < d.1) ∧ c.2 ≠ 0 ∧ c.1 < bufferSize ∧ Memory.wf m = true := by
  simp only [Memory.wf_iff, List.pairwise_cons, List.mem_cons, forall_eq_or_imp]
  tauto

/-- An address below every listed one reads 0. -/
theorem Memory.read_below {m : Memory} {a : Nat} (h : ∀ d ∈ m, a < d.1) : m.read a = 0 := by
  induction m with
  | nil => rfl
  | cons c m ih =>
    have hc : a < c.1 := h c (by simp)
    simp only [Memory.read]
    rw [if_neg (by omega)]
    exact ih fun d hd => h d (by simp [hd])

/-- Every cell of a memory after a write is the written one or was there. -/
theorem Memory.mem_write {m : Memory} {a : Nat} {v : Byte} {c : Host.Cell} (h : c ∈ m.write a v) :
    (c = (a, v) ∧ v ≠ 0) ∨ c ∈ m := by
  induction m with
  | nil =>
    simp only [Memory.write] at h
    split at h <;> simp_all
  | cons d m ih =>
    obtain ⟨b, w⟩ := d
    simp only [Memory.write] at h
    split at h
    · split at h
      · exact .inr h
      · rcases List.mem_cons.mp h with rfl | h
        · exact .inl ⟨rfl, ‹_›⟩
        · exact .inr h
    · split at h
      · split at h
        · exact .inr (List.mem_cons_of_mem _ h)
        · rcases List.mem_cons.mp h with rfl | h
          · exact .inl ⟨rfl, ‹_›⟩
          · exact .inr (List.mem_cons_of_mem _ h)
      · rcases List.mem_cons.mp h with rfl | h
        · exact .inr (by simp)
        · rcases ih h with h | h
          · exact .inl h
          · exact .inr (List.mem_cons_of_mem _ h)

/-- A read after a write: the written byte at its address, what was there at every other. -/
theorem Memory.read_write {m : Memory} (hm : m.wf = true) (a b : Nat) (v : Byte) :
    (m.write a v).read b = if b = a then v else m.read b := by
  induction m with
  | nil =>
    simp only [Memory.write]
    split
    · by_cases hb : b = a
      · rw [if_pos hb, ‹v = 0›]
        rfl
      · rw [if_neg hb]
    · by_cases hb : b = a <;> simp [Memory.read, hb]
  | cons c m ih =>
    obtain ⟨k, w⟩ := c
    obtain ⟨hlt, -, -, hm'⟩ := Memory.wf_cons.mp hm
    simp only [Memory.write]
    split
    · rename_i hak
      have hbelow : ∀ d ∈ (k, w) :: m, a < d.1 := by
        intro d hd
        rcases List.mem_cons.mp hd with rfl | hd
        · exact hak
        · exact Nat.lt_trans hak (hlt d hd)
      split
      · by_cases hb : b = a
        · subst hb
          rw [Memory.read_below hbelow, if_pos rfl, ‹v = 0›]
        · rw [if_neg hb]
      · by_cases hb : b = a <;> simp [Memory.read, hb]
    · split
      · rename_i _ hak
        subst hak
        split
        · by_cases hb : b = a
          · subst hb
            rw [Memory.read_below hlt, if_pos rfl, ‹v = 0›]
          · simp [Memory.read, hb]
        · by_cases hb : b = a <;> simp [Memory.read, hb]
      · rename_i h1 h2
        by_cases hb : b = k
        · have : b ≠ a := by omega
          subst hb
          simp [Memory.read, this]
        · simp only [Memory.read, hb, if_false]
          exact ih hm'

/-- A write below 512 keeps the canonical form. -/
theorem Memory.wf_write {m : Memory} (hm : m.wf = true) {a : Nat} (ha : a < bufferSize) (v : Byte) :
    (m.write a v).wf = true := by
  induction m with
  | nil =>
    simp only [Memory.write]
    split
    · exact hm
    · exact Memory.wf_cons.mpr ⟨by simp, ‹_›, ha, hm⟩
  | cons c m ih =>
    obtain ⟨k, w⟩ := c
    obtain ⟨hlt, hw, hk, hm'⟩ := Memory.wf_cons.mp hm
    simp only [Memory.write]
    split
    · rename_i hak
      split
      · exact hm
      · refine Memory.wf_cons.mpr ⟨?_, ‹_›, ha, hm⟩
        intro d hd
        rcases List.mem_cons.mp hd with rfl | hd
        · exact hak
        · exact Nat.lt_trans hak (hlt d hd)
    · split
      · rename_i _ hak
        subst hak
        split
        · exact hm'
        · exact Memory.wf_cons.mpr ⟨hlt, ‹_›, ha, hm'⟩
      · refine Memory.wf_cons.mpr ⟨?_, hw, hk, ih hm'⟩
        intro d hd
        rcases Memory.mem_write hd with ⟨rfl, -⟩ | hd
        · show k < a
          omega
        · exact hlt d hd

/-- A run of bytes written within the buffer keeps the canonical form. -/
theorem Memory.wf_writeRun (vs : List Byte) {m : Memory} (hm : m.wf = true) {a : Nat}
    (ha : a + vs.length ≤ bufferSize) : (m.writeRun a vs).wf = true := by
  induction vs generalizing m a with
  | nil => exact hm
  | cons v vs ih =>
    simp only [List.length_cons] at ha
    exact ih (Memory.wf_write hm (by omega) v) (by omega)

/-- A read after a run is written: the byte of the run at its address, what was there at every other. -/
theorem Memory.read_writeRun (vs : List Byte) {m : Memory} (hm : m.wf = true) {a : Nat}
    (ha : a + vs.length ≤ bufferSize) (b : Nat) :
    (m.writeRun a vs).read b =
      if a ≤ b ∧ b < a + vs.length then vs.getD (b - a) 0 else m.read b := by
  induction vs generalizing m a with
  | nil =>
    have : ¬ (a ≤ b ∧ b < a + ([] : List Byte).length) := by simp
    rw [if_neg this]
    rfl
  | cons v vs ih =>
    simp only [List.length_cons] at ha
    simp only [Memory.writeRun]
    rw [ih (Memory.wf_write hm (by omega) v) (by omega), Memory.read_write hm]
    by_cases h : b = a
    · subst h
      rw [if_neg (by omega), if_pos rfl, if_pos (by simp)]
      simp
    · by_cases h2 : a + 1 ≤ b ∧ b < a + 1 + vs.length
      · rw [if_pos h2, if_pos (by simp only [List.length_cons]; omega)]
        obtain ⟨k, rfl⟩ : ∃ k, b = a + 1 + k := ⟨b - (a + 1), by omega⟩
        have e1 : a + 1 + k - (a + 1) = k := by omega
        have e2 : a + 1 + k - a = k + 1 := by omega
        rw [e1, e2]
        simp
      · rw [if_neg h2, if_neg h, if_neg (by simp only [List.length_cons]; omega)]

/-- The buffer right after reset is in canonical form. -/
theorem Memory.reset_wf : State.reset.bulk.buffer.wf = true := by decide

end Sys2Proof.Machine
end

