-- ==== Sys2Proof/Tests/Slice0.lean ====
section
/-! SUPPORT. Small tests: ill-formed commands, worked values of the manual, and one state and operands for the
hypotheses of each statement, clause by clause. -/

namespace Sys2Proof.Tests

set_option Elab.async false

open Sys2Proof Sys2Proof.Machine

/-! ### States -/

/-- RESET released, nothing queued, the transmitter settled. -/
def base : State := { State.reset with resetAsserted := false, notices := ⟨none, [], 0, 0, false⟩ }

/-- A node of two input and two output bytes, one retry, OFFLINE at the third failure. -/
def cfg5 : NodeConfig := ⟨true, 2, 2, 100, 1, 3, 8, 5000, .anyChange⟩

/-- Tables with node 5 enabled and polled by main entry 0. -/
def tables5 : TableSet :=
  { TableSet.reset with
    nodes := bankSet TableSet.reset.nodes 5 cfg5
    mainLen := 1
    main := TableSet.reset.main.set 0 ⟨5, 1, 0⟩ }

/-- The part with node 5 in a given health. -/
def net (h : Health) : State :=
  { base with
    tables := ⟨tables5, tables5, false, 1⟩
    nodes := bankSet base.nodes 5 ⟨h, 0, 0, false, 0, 0⟩
    images := bankSet base.images 5 ⟨false, [0, 0], 0, 0, 65535, false, [0, 0]⟩ }

/-- The line controller awaiting a reply from node 30: not IDLE, so that no arbitration is due. -/
def waiting (s : State) : State :=
  { s with line := { s.line with phase := .awaiting ⟨.status, 30, .none, 1⟩ false 100 } }

/-- The line controller IDLE. -/
def idle (s : State) : State := { s with line := base.line }

/-- The part with node 5 ONLINE, a request queue, and the line not IDLE. -/
def queued (urgent normal : List Entry) : State := { waiting (net .online) with queue := ⟨urgent, normal⟩ }

/-- An entry of node 5 with one tag. -/
def entry (k : EntryKind) (tag : Byte) (p : EntryPhase) : Entry := ⟨k, 5, [⟨tag, none⟩], 0, p⟩

/-- Eight entries, their tags outstanding. -/
def eight : List Entry := (List.range 8).map fun i => entry .probe (natByte (100 + i)) .queued

/-- A transfer of 33 bytes to node 5 in a given state. -/
def bulk5 (b : BulkState) (filled : Nat) (p : SegPhase) : Bulk :=
  ⟨b, some 5, some 33, filled, 2, 0, 0, 1, 0, p, [], none, false⟩

/-- The part with node 5 in a given health, a transfer, and the line not IDLE. -/
def moving (h : Health) (b : BulkState) (filled : Nat) (p : SegPhase) : State :=
  { waiting (net h) with bulk := bulk5 b filled p }

/-- The part in a given phase of the line controller. -/
def onLine (p : LinePhase) : State := { net .online with line := { (net .online).line with phase := p } }

/-- The part in a given state of the receiver. -/
def rx (p : RxPhase) : State := { base with link := { base.link with rx := p } }

/-- The part in a given run state. -/
def inRun (r : RunState) : State := { net .online with sched := { (net .online).sched with runState := r } }

/-- The part with SAFE on. -/
def safe (s : State) : State := { s with sched := { s.sched with safe := true } }

/-- The part with a transmitter state, replies queued and a run counter. -/
def sending (tx : Tx) (replies : List UpFrame) (run : Nat) : State :=
  { base with link := { base.link with tx := tx, replies := replies, replyRun := run } }

/-- The part with a commit pending. -/
def pendingCommit (s : State) (shadow : TableSet) : State :=
  { s with tables := { s.tables with shadow := shadow, commitPending := true } }

/-! ### What is looked at -/

/-- The frame reaches its owner, at a settled transmitter and with nothing due. -/
def ready (s : State) (f : UpFrame) : Bool := s.accepts f && s.txSettled && s.decided

/-- The state after a command, where it has one. -/
def after (c : Instr) (s : State) : Option State :=
  match exec c s with
  | .next t => some t
  | _ => none

/-- The payload of the newest reply after a command. -/
def answer (c : Instr) (s : State) : List Byte :=
  match after c s with
  | some t => (t.link.replies.getLast?.map (·.payload)).getD []
  | none => []

/-- The result code a command is answered with. -/
def code (c : Instr) (s : State) : Byte := (answer c s).headD 0xFF

/-- The phase of the line controller after a command. -/
def phaseAfter (c : Instr) (s : State) : Option LinePhase := (after c s).map (·.line.phase)

/-- The part with its transmitter sending a notice frame, so that it takes nothing in this event. -/
def busy (s : State) : State := { s with link := { s.link with tx := .sendingNotice ⟨0x80, 0xE0, 0, []⟩ } }

/-! ### Ill-formed commands -/

theorem smoke_hunt_byte_is_no_sync : (Instr.huntByte 0x5A false).wellFormed = false := by decide +kernel

theorem smoke_unknown_payload_too_long :
    (Instr.frameWithUnknownCommand 0 0xFF 1 (List.replicate 241 0)).wellFormed = false := by decide +kernel

theorem smoke_node_address_0 : (Instr.readInput 0 1 [0]).wellFormed = false := by decide +kernel

theorem smoke_node_address_31 : (Instr.probe 31 1 [0]).wellFormed = false := by decide +kernel

theorem smoke_node_payload_too_long :
    (Instr.pass 5 1 (List.replicate 241 0)).wellFormed = false := by decide +kernel

theorem smoke_part_payload_too_long :
    (Instr.bulkData 1 (List.replicate 241 0)).wellFormed = false := by decide +kernel

theorem smoke_longest_payload_fits : (Instr.bulkData 1 (List.replicate 240 0)).wellFormed = true := by decide +kernel

/-! ### Worked values of the manual -/

/-- Section 2.1: the worked check pairs. -/
theorem test_check_pairs :
    checkPair [0x05, 0x02, 0x00] = (0x07, 0x13) ∧ checkPair [0x1F, 0x0F, 0x00] = (0x2E, 0x7B) ∧
    checkPair [0x84, 0x81, 0x04, 0x00, 0x22, 0x00, 0xFF] = (0x2C, 0x23) := by decide +kernel

/-- Section 2.1: the STATUS frame to node 5. -/
theorem test_status_frame : downFrame 5 0x02 [] = [0xC6, 0x05, 0x02, 0x00, 0x07, 0x13] := by decide +kernel

/-- R147, R171: the RESTART notice of a power-on reset goes out with sequence 0 at the release of RESET. -/
theorem test_restart_notice :
    (after .resetRelease State.reset).map (·.link.tx) =
      some (.sendingNotice ⟨0x80, 0xE0, 0, [0x01, 0x00, 0x01]⟩) := by decide +kernel

/-- R20, R172: a QUERY_STATUS after power-on reset reports STOPPED, SAFE clear, generation 0, nothing queued
but the notices. -/
theorem test_status_after_reset :
    answer (.queryStatus 1 []) base = [0x00, 1, 0, 0, 0, 0, 0, 0, 0, 0, 0, 0, 1, 0, 0] := by decide +kernel

/-- R66: the four qualities, STALE one tick past the limit. -/
theorem test_quality :
    let at_ (h : Health) (v : Bool) (age : Half) : Quality :=
      ({ net h with images := bankSet base.images 5 ⟨v, [0, 0], 0, 0, age, false, [0, 0]⟩ } : State).quality 5
    at_ .online false 0 = .none ∧ at_ .offline true 0 = .lost ∧ at_ .online true 5000 = .good ∧
      at_ .online true 5001 = .stale := by decide +kernel

/-- R27, R37: a reply timer expires at its tick and not before. -/
theorem test_reply_timer :
    let o : Order := ⟨.exchange, 5, .none, 1⟩
    phaseAfter .replyTimerExpiry (onLine (.awaiting o false 0)) = some .idle ∧
      (after .replyTimerExpiry (onLine (.awaiting o false 1))).isNone = true := by decide +kernel

/-- R45: the third failure with a threshold of 3 takes a SUSPECT node to OFFLINE, its countdown loaded. -/
theorem test_third_failure :
    (⟨.suspect, 2, 0, false, 9, 4⟩ : NodeRt).take cfg5 (.failure .timeout) =
      ⟨.offline, 3, 8, false, 10, 5⟩ := by decide +kernel

/-- R44: a valid reply brings an OFFLINE node to ONLINE. -/
theorem test_recovery :
    (⟨.offline, 3, 4, false, 9, 4⟩ : NodeRt).take cfg5 (.replied (.statusReply 0x80 7)) =
      ⟨.online, 0, 0, true, 10, 4⟩ := by decide +kernel

/-- R121, R129: START's walk rests with the main entry that is due, and the arbitration of the same event orders
it; ARBITRATION has nothing left to do. -/
theorem test_start_orders_in_the_same_event :
    (after (.start 1 []) (net .online)).map (fun t => (t.sched.attached, t.line.phase)) =
      some (some ⟨⟨.main, 5, 0⟩, 1, false⟩, .gapWait ⟨.exchange, 5, .schedule, 1⟩ (some 5)) ∧
    (after (.start 1 []) (net .online)).bind (after .arbitration) = after (.start 1 []) (net .online) := by
  decide +kernel

/-- R94, R121: an EXCHANGE accepted with the line IDLE is ordered in its acceptance event, so that a CANCEL after it
finds it in flight. -/
theorem test_accepted_exchange_is_in_flight :
    ((after (.exchange 5 7 [0]) (net .online)).map (code (.cancel 8 [7]))) = some 0x32 := by decide +kernel

/-- R161: a COMMIT accepted in STOPPED with the line IDLE is applied in the acceptance event. -/
theorem test_commit_applies_in_the_same_event :
    (after (.commit 1 []) (net .online)).map (fun t => (t.tables.commitPending, t.tables.generation)) =
      some (false, 2) := by decide +kernel

/-- R103, R177: a BULK_DATA with a 2-byte payload is BAD_LENGTH whatever its offset; R176: an option bit that is not
allowed is BAD_VALUE although the byte count is bad too. -/
theorem test_step_4_before_5 :
    dispatchRefusal false 0 0x51 [0xFF, 0xFF] = some .badLength ∧
    dispatchRefusal false 5 0x13 [0x80] = some .badValue := by decide +kernel

/-- R108, R109: BUSY backs off; R112: a transfer resumes in RUNNING. -/
theorem test_resume :
    (after (.bulkResume 1 []) (moving .online (.suspended .user) 33 .none)).map (·.bulk.state) =
      some .running := by decide +kernel

/-! ### Witnesses: the queue, the resets and the receiver -/

theorem witness_PowerOnResetAndItsRelease :
    State.reset.resetAsserted = true ∧ State.reset.link.tx = .idle ∧ State.reset.link.replies = [] ∧
    State.reset.link.restartPending = none ∧
    State.reset.notices = ⟨none, [.restart .power], 0, 0, false⟩ := by decide +kernel

/-- The part sending the RESTART_WARM reply. -/
def restarting : State :=
  { net .suspect with link := { base.link with
      tx := .sendingReply, replies := [⟨0x80, 0xC5, 1, [0]⟩], restartPending := some 1, replyRun := 1 } }

theorem witness_WarmRestartLeavesTheWarmValues :
    restarting.resetAsserted = false ∧ restarting.link.tx = .sendingReply ∧
    restarting.link.restartPending = some 1 ∧
    (after .upstreamFrameSent restarting).map (fun t => (t.health 5, t.link.tx)) =
      some (.probing, .sendingNotice ⟨0x80, 0xE0, 0, [0x01, 0x00, 0x02]⟩) := by decide +kernel

theorem witness_ReceiverHuntsAndCollects :
    (rx .hunt).resetAsserted = false ∧
    (after (.huntByte 0x00 false) (rx .hunt)).isSome ∧ (after (.huntByte 0x5A true) (rx .hunt)).isSome ∧
    (after (.upstreamByteCollected 0x5A) (rx .hunt)).map (·.link.rx) = some (.header [] (some 50)) ∧
    (after (.upstreamByteCollected 3) (rx (.header [] none))).map (·.link.rx) = some (.header [3] (some 50)) ∧
    (after (.upstreamByteCollected 243) (rx (.header [] none))).isSome ∧
    (after (.upstreamByteCollected 0) (rx (.header [3] none))).isSome ∧
    (after (.upstreamByteCollected 0x20) (rx (.header [3, 0] none))).map (·.link.rx) =
      some (.header [3, 0, 0x20] (some 50)) ∧
    (after (.upstreamByteCollected 1) (rx (.header [3, 0, 0x20] none))).map (·.link.rx) =
      some (.body [3, 0, 0x20, 1] (some 50)) ∧
    (after (.upstreamByteCollected 9) (rx (.body [3, 0, 0x20, 1] none))).map (·.link.rx) =
      some (.body [3, 0, 0x20, 1, 9] (some 50)) ∧
    (after .upstreamCharacterStart (rx .hunt)).isSome ∧
    (after .upstreamCharacterStart (rx (.header [] (some 7)))).map (·.link.rx) = some (.header [] none) ∧
    (after .upstreamCharacterStart (rx (.body [3, 0, 0x20, 1] (some 7)))).isSome := by decide +kernel

theorem witness_BrokenUpstreamFramesAreCheckErrors :
    let pair := checkPair [3, 0, 0x20, 1]
    let full := rx (.body [3, 0, 0x20, 1, pair.1] none)
    let errors (s : Option State) : Option Half := s.map (·.link.counters.checkErrors)
    errors (after (.upstreamCheckError 2 false) (rx (.header [] none))) = some 1 ∧
    errors (after (.upstreamCheckError 244 false) (rx (.header [] none))) = some 1 ∧
    errors (after (.upstreamCheckError 3 true) (rx (.header [] none))) = some 1 ∧
    errors (after (.upstreamCheckError 0 true) full) = some 1 ∧
    errors (after (.upstreamCheckError (pair.2 + 1) false) full) = some 1 ∧
    (after (.upstreamCheckError pair.2 false) full).isNone ∧
    errors (after .upstreamInterByteExpiry (rx (.header [] (some 0)))) = some 1 ∧
    errors (after .upstreamInterByteExpiry (rx (.body [3, 0, 0x20, 1] (some 0)))) = some 1 := by decide +kernel

theorem witness_UnknownFramesAreRefused :
    base.txSettled = true ∧ base.decided = true ∧ base.dispatches ⟨31, 0x20, 1, []⟩ = true ∧
    code (.frameWithUnknownCommand 31 0x20 1 []) base = 0x12 ∧
    Command.ofCode 0xFF = none ∧ code (.frameWithUnknownCommand 30 0xFF 1 []) base = 0x13 ∧
    Command.ofCode 0x20 = some .queryStatus ∧ code (.frameWithUnknownCommand 1 0x20 1 []) base = 0x12 ∧
    Command.ofCode 0x10 = some .readInput ∧ code (.frameWithUnknownCommand 0 0x10 1 [0]) base = 0x12 := by
  decide +kernel

theorem witness_FramesAreDiscardedOrRefused :
    let full := sending .sendingReply (List.replicate 16 ⟨0x80, 0xA0, 1, [0]⟩) 4
    let f : UpFrame := ⟨0, 0x20, 100, []⟩
    let long : UpFrame := ⟨0, 0x20, 1, [0]⟩
    (Instr.queryStatus 100 []).upFrame = some f ∧
    full.resetAsserted = false ∧ full.frameFits f = true ∧ full.freeSlots = 0 ∧
    restarting.frameFits f = true ∧ restarting.link.restartPending.isSome = true ∧
    (after (.frameWithUnknownCommand 0 0xFF 1 []) full).map (·.link.counters.discards) = some 1 ∧
    full.frameFits ⟨0, 0xFF, 1, []⟩ = true ∧ (addressRefusal 0 0xFF).isSome = true ∧
    base.dispatches long = true ∧ base.txSettled = true ∧ base.decided = true ∧ (queued eight []).decided = true ∧
    dispatchRefusal (Config.badValueFirst base.choices) 0 0x20 [0] = some .badLength ∧
    code (.queryStatus 1 [0]) base = 0x14 ∧
    (queued eight []).dispatches f = true ∧ dispatchRefusal true 0 0x20 [] = none ∧
    (100 : Byte) ∈ (queued eight []).outstanding ∧ code (.queryStatus 100 []) (queued eight []) = 0x11 := by
  decide +kernel

/-- A frame for each refusal of steps 4 and 5, and one that passes, at the edges of the ranges. -/
theorem witness_PayloadsAreCheckedInOrder :
    let node (cmd : Byte) (p : List Byte) : Option Result := dispatchRefusal true 5 cmd p
    let part (cmd : Byte) (p : List Byte) : Option Result := dispatchRefusal true 0 cmd p
    node 0x10 [4, 0, 9] = none ∧ node 0x10 [4, 0] = some .badLength ∧ node 0x10 [6, 0, 9, 0, 0] = some .badValue ∧
    node 0x14 [2, 0, 1] = none ∧ node 0x14 [4] = some .badValue ∧
    node 0x12 [8] = some .badLength ∧ node 0x12 (8 :: List.replicate 16 0) = none ∧
    node 0x12 (8 :: List.replicate 17 0) = some .badLength ∧ node 0x12 [10, 0, 0, 7] = some .badValue ∧
    node 0x12 [0, 7] = some .badLength ∧ node 0x12 [0x18] = some .badValue ∧ node 0x12 [10, 0, 0] = some .badValue ∧
    node 0x13 [0] = some .badLength ∧ node 0x13 (0 :: List.replicate 32 0) = none ∧
    node 0x13 (0 :: List.replicate 33 0) = some .badLength ∧ node 0x13 [2, 0] = some .badLength ∧
    node 0x11 [] = some .badLength ∧ node 0x11 (List.replicate 16 0) = none ∧ node 0x21 [0] = some .badLength ∧
    part 0x20 [] = none ∧ part 0x23 [0, 0, 0] = some .badLength ∧ part 0x46 [7] = none ∧
    part 0x31 [1, 0] = none ∧ part 0x33 [0, 1] = some .badLength ∧
    part 0x22 [2] = some .badValue ∧ part 0x22 [1, 1] = some .badLength ∧
    part 0x50 [30, 2, 0] = none ∧ part 0x50 [30, 2, 1] = some .badValue ∧ part 0x50 [0, 0, 1] = some .badValue ∧
    part 0x51 [1, 255, 0] = none ∧ part 0x51 [2, 0, 0] = some .badValue := by decide +kernel

/-! ### Witnesses: the end of an event -/

/-- Nothing due, one of the two due, and both due; and the transmitter's cases. -/
theorem witness_EventsTakeWhatTheyMakeDue :
    let arbitrating := idle (queued [entry .probe 1 .queued] [])
    let applying := pendingCommit (net .online) tables5
    let both := pendingCommit arbitrating tables5
    let r : UpFrame := ⟨0x80, 0xA0, 1, [0]⟩
    let told (s : State) : State := { s with notices := ⟨none, [.safeEntered], 4, 0, false⟩ }
    base.applicationDue = false ∧ base.arbitrationDue = false ∧
    arbitrating.applicationDue = false ∧ arbitrating.arbitrationDue = true ∧
    applying.applicationDue = true ∧ applying.arbitrationDue = false ∧
    both.applicationDue = true ∧ both.arbitrationDue = true ∧
    (waiting base).line.phase ≠ .idle ∧ (waiting applying).applicationDue = false ∧
    (waiting applying).tables.commitPending = true ∧
    (busy base).link.tx ≠ .idle ∧
    (sending .idle [r] 0).wake.link.tx = .sendingReply ∧ (sending .idle [r] 0).noticeTakable = false ∧
    (told (sending .idle [r] 0)).noticeTakable = true ∧
    (told base).noticeTakable = true ∧ (told base).link.replies = [] ∧
    (told base).wake.link.tx = .sendingNotice ⟨0x80, 0xE0, 4, [8, 0]⟩ := by decide +kernel

/-! ### Witnesses: queries and tables -/

theorem witness_Queries :
    ready base ⟨0, 0x20, 1, []⟩ = true ∧ ready (net .offline) ⟨5, 0x21, 1, []⟩ = true ∧
    ready base ⟨0, 0x22, 1, []⟩ = true ∧ ready base ⟨0, 0x22, 1, [0x01]⟩ = true ∧
    (answer (.queryNode 5 1 []) (net .offline)).length = 25 ∧
    (after (.readCounters 1 [0x01]) base).map (·.link.counters.validFrames) = some 0 := by decide +kernel

/-- The code READ_TABLE is answered with, for a frame that reaches the table store. -/
def readCode (copy table first count : Byte) : Option Byte :=
  if ready (net .online) ⟨0, 0x23, 1, [copy, table, first, count]⟩ then
    some (code (.readTable 1 [copy, table, first, count]) (net .online))
  else none

theorem witness_ReadTableAnswersTheRecords :
    readCode 0 0 9 9 = some 0 ∧ readCode 1 0 0 0 = some 0 ∧ readCode 0 1 1 21 = some 0 ∧
    readCode 1 1 30 1 = some 0 ∧ readCode 0 1 10 21 = some 0 ∧ readCode 0 2 0 64 = some 0 ∧
    readCode 1 2 63 1 = some 0 ∧ readCode 0 3 0 4 = some 0 ∧ readCode 1 3 3 1 = some 0 ∧
    readCode 2 0 0 0 = some 0x15 ∧ readCode 0 4 0 1 = some 0x15 ∧ readCode 0 1 0 1 = some 0x15 ∧
    readCode 0 1 1 0 = some 0x15 ∧ readCode 0 1 11 21 = some 0x15 ∧ readCode 0 1 1 22 = some 0x15 ∧
    readCode 0 2 0 0 = some 0x15 ∧ readCode 0 2 1 64 = some 0x15 ∧ readCode 0 3 0 0 = some 0x15 ∧
    readCode 0 3 1 4 = some 0x15 := by decide +kernel

theorem witness_LoadsWriteTheShadowAlone :
    let p : List Byte := [64, 4]
    ((Instr.setLengths 1 p, (0x34 : Byte), setLengths p) ∈
      [(Instr.loadLine 1 p, (0x30 : Byte), loadLine p), (.loadNodes 1 p, 0x31, loadNodes p),
       (.loadMain 1 p, 0x32, loadMain p), (.loadInterleave 1 p, 0x33, loadInterleave p),
       (.setLengths 1 p, 0x34, setLengths p), (.discard 1 p, 0x36, fun _ => some TableSet.reset)]) ∧
    ready base ⟨0, 0x34, 1, [64, 4]⟩ = true ∧ base.tables.commitPending = false ∧
    (setLengths [64, 4] base.tables.shadow).isSome = true ∧ setLengths [65, 4] base.tables.shadow = none ∧
    ready (waiting (pendingCommit base TableSet.reset)) ⟨0, 0x34, 1, [64, 4]⟩ = true ∧
    code (.setLengths 1 [64, 4]) base = 0 ∧ code (.setLengths 1 [65, 4]) base = 0x15 ∧
    code (.setLengths 1 [64, 5]) base = 0x15 ∧
    code (.setLengths 1 [64, 4]) (waiting (pendingCommit base TableSet.reset)) = 0x40 ∧
    code (.loadLine 1 TableSet.reset.line.bytes) base = 0 ∧ code (.loadNodes 1 (30 :: 1 :: cfg5.bytes)) base = 0 ∧
    code (.loadMain 1 [63, 1, 30, 16, 15]) base = 0 ∧ code (.loadInterleave 1 [3, 1, 30]) base = 0 ∧
    code (.discard 1 []) base = 0 := by
  refine ⟨by simp, ?_⟩
  decide +kernel

/-- The lowest and the highest line record, and the lowest and the highest node record. -/
theorem witness_TableRecords :
    let low : LineParams := ⟨1, 1, 1, 1, 1, 0, 0, 10⟩
    let high : LineParams := ⟨50, 8, 8, 8, 65535, 65535, 65535, 65535⟩
    let lowNode : NodeConfig := ⟨false, 0, 0, 2, 0, 1, 1, 1, .none⟩
    let highNode : NodeConfig := ⟨true, 32, 16, 2000, 3, 15, 255, 65535, .statusOnly⟩
    LineParams.ofBytes low.bytes = some low ∧ LineParams.ofBytes high.bytes = some high ∧
    NodeConfig.ofBytes lowNode.bytes = some lowNode ∧ NodeConfig.ofBytes highNode.bytes = some highNode ∧
    MainEntry.ofBytes [1, 1, 0] = some ⟨1, 1, 0⟩ ∧ MainEntry.ofBytes [30, 16, 15] = some ⟨30, 16, 15⟩ ∧
    LineParams.ofBytes { low with noticeResend := 9 }.bytes = none ∧
    NodeConfig.ofBytes { highNode with outputLen := 17 }.bytes = none ∧
    MainEntry.ofBytes [31, 1, 0] = none := by decide +kernel

theorem witness_LoadedRecordsReachTheirPlaces :
    (loadNodes (1 :: 1 :: cfg5.bytes) TableSet.reset).isSome ∧
    (loadNodes (30 :: 1 :: cfg5.bytes) TableSet.reset).map (fun t => bankGet t.nodes NodeConfig.cleared 30) =
      some cfg5 ∧
    (loadMain [63, 1, 30, 16, 15] TableSet.reset).map (fun t => t.main[63]) = some ⟨30, 16, 15⟩ ∧
    (loadInterleave [0, 4, 1, 2, 3, 30] TableSet.reset).map (fun t => t.interleave[3]) = some 30 ∧
    (setLengths [0, 0] TableSet.reset).isSome ∧
    (loadNodes (31 :: 1 :: cfg5.bytes) TableSet.reset).isNone ∧ (loadNodes [1, 0] TableSet.reset).isNone ∧
    (loadNodes (0 :: 1 :: cfg5.bytes) TableSet.reset).isNone ∧
    (loadMain [63, 2, 1, 1, 0, 1, 1, 0] TableSet.reset).isNone ∧
    (loadMain [0, 2, 1, 1, 0, 31, 1, 0] TableSet.reset).isNone ∧
    (loadInterleave [3, 2, 1, 1] TableSet.reset).isNone ∧ (loadInterleave [0, 1, 31] TableSet.reset).isNone ∧
    (setLengths [65, 0] TableSet.reset).isNone := by decide +kernel

theorem witness_CommitValidatesTheShadow :
    let bad : TableSet := { TableSet.reset with mainLen := 1 }
    let worse : State := { base with tables := { base.tables with shadow := bad } }
    ready base ⟨0, 0x35, 1, []⟩ = true ∧ bad.invalid = some (2, 0) ∧ worse.tables.commitPending = false ∧
    ready worse ⟨0, 0x35, 1, []⟩ = true ∧ answer (.commit 1 []) worse = [0x41, 2, 0] ∧
    tables5.invalid = none ∧ code (.commit 1 []) (net .online) = 0x01 ∧
    ready (waiting (pendingCommit base tables5)) ⟨0, 0x35, 1, []⟩ = true ∧
    code (.commit 1 []) (waiting (pendingCommit base tables5)) = 0x40 ∧
    ({ TableSet.reset with mainLen := 65 } : TableSet).invalid = some (1, 0) ∧
    ({ TableSet.reset with ilLen := 1 } : TableSet).invalid = some (1, 0) ∧
    ({ tables5 with mainLen := 2 } : TableSet).invalid = some (2, 1) ∧
    ({ tables5 with ilLen := 2, interleave := Vector.replicate 4 5 } : TableSet).invalid = some (3, 1) := by decide +kernel

/-- A commit that disables node 5 with a transfer to it running, one that enables node 5, and one that changes
its input length with the node OFFLINE and the cycle at its boundary in RUNNING. -/
theorem witness_CommitApplicationTakesEffect :
    let off := pendingCommit (idle (moving .online .running 33 .none)) TableSet.reset
    let on := pendingCommit base tables5
    let longer : TableSet := { tables5 with nodes := bankSet tables5.nodes 5 { cfg5 with inputLen := 3 } }
    let changed := pendingCommit { net .offline with sched :=
      { base.sched with runState := .running, boundaryMark := true } } longer
    let same := pendingCommit (net .offline) tables5
    let lower : TableSet := { tables5 with nodes := bankSet tables5.nodes 5 { cfg5 with offlineThreshold := 1 } }
    let aligned := pendingCommit { net .suspect with nodes := bankSet base.nodes 5 ⟨.suspect, 2, 0, false, 0, 0⟩ } lower
    let asked := pendingCommit { net .online with queue := ⟨[entry .refresh 7 .queued], [entry .probe 8 .queued]⟩ } TableSet.reset
    off.tables.commitPending = true ∧ off.line.phase = .idle ∧ off.sched.runState ≠ .running ∧
    (after .commitApplication off).isSome ∧ off.bulk.node = some 5 ∧ off.bulk.state.active = true ∧
    (off.cfg 5).enabled = true ∧ (bankGet off.tables.shadow.nodes NodeConfig.cleared 5).enabled = false ∧
    (after .commitApplication on).map (fun t => (t.health 5, t.tables.generation)) = some (.probing, 1) ∧
    changed.sched.boundaryMark = true ∧
    (after .commitApplication changed).map (fun t => (t.health 5, (t.image 5).data)) =
      some (.probing, [0, 0, 0]) ∧
    (after .commitApplication same).map (fun t => (t.health 5, (t.node 5).failCount)) =
      some (.offline, 3) ∧
    (after .commitApplication aligned).map (fun t => (t.node 5).failCount) = some 0 ∧
    (after .commitApplication (busy asked)).map (·.link.replies) =
      some [⟨0x85, 0x90, 7, [0x22, 1, 0xFF, 0xFF, 0, 0]⟩, ⟨0x85, 0x94, 8, [0x22]⟩] := by decide +kernel

/-! ### Witnesses: run states, the walk and SAFE -/

theorem witness_StartResumeAndWaitEndTakeTheWalk :
    let kept : State := { inRun .suspended with sched :=
      { (inRun .suspended).sched with ready := some ⟨.main, 5, 0⟩ } }
    let timed (r : RunState) : State := { inRun r with sched := { (inRun r).sched with minWait := some 0 } }
    ready (inRun .running) ⟨0, 0x40, 1, []⟩ = true ∧ code (.start 1 []) (inRun .running) = 0x42 ∧
    ready base ⟨0, 0x40, 1, []⟩ = true ∧ code (.start 1 []) base = 0x46 ∧
    ready (net .online) ⟨0, 0x40, 1, []⟩ = true ∧ code (.start 1 []) (net .online) = 0 ∧
    ready (inRun .stopped) ⟨0, 0x43, 1, []⟩ = true ∧ code (.resumeCycle 1 []) (inRun .stopped) = 0x42 ∧
    ready kept ⟨0, 0x43, 1, []⟩ = true ∧ kept.sched.ready.isSome = true ∧ code (.resumeCycle 1 []) kept = 0 ∧
    ready (inRun .suspended) ⟨0, 0x43, 1, []⟩ = true ∧ code (.resumeCycle 1 []) (inRun .suspended) = 0 ∧
    (timed .stopped).txSettled = true ∧ (timed .stopped).decided = true ∧
    (after .minPeriodWaitExpiry (timed .stopped)).map (·.sched.minWait) = some none ∧
    (after .minPeriodWaitExpiry (timed .running)).map (·.sched.attached) =
      some (some ⟨⟨.main, 5, 0⟩, 1, false⟩) := by
  decide +kernel

theorem witness_StopAndSuspendHoldTheCycle :
    ready (inRun .stopped) ⟨0, 0x41, 1, []⟩ = true ∧ code (.stop 1 []) (inRun .stopped) = 0x42 ∧
    ready (inRun .running) ⟨0, 0x41, 1, []⟩ = true ∧ code (.stop 1 []) (inRun .running) = 0 ∧
    code (.stop 1 []) (inRun .suspended) = 0 ∧
    ready (inRun .running) ⟨0, 0x42, 1, []⟩ = true ∧ code (.suspendCycle 1 []) (inRun .running) = 0 ∧
    ready (inRun .suspended) ⟨0, 0x42, 1, []⟩ = true ∧
    code (.suspendCycle 1 []) (inRun .suspended) = 0x42 := by decide +kernel

/-- The walk rests with a step of each kind. -/
theorem witness_WalkRestsOnAnAllowedStep :
    let probing : State := { net .offline with sched := { base.sched with runState := .running } }
    let polling : State := { net .online with sched := { base.sched with runState := .running } }
    let owed : State := { polling with
      tables := { polling.tables with active := { tables5 with
        ilLen := 1, interleave := TableSet.reset.interleave.set 0 5 } }
      sched := { polling.sched with phase := .main, sweepAddr := 31, spacing := 4 } }
    probing.sched.ready = none ∧ probing.walk.sched.ready = some ⟨.probe, 5, 5⟩ ∧
    polling.sched.ready = none ∧ polling.walk.sched.ready = some ⟨.main, 5, 0⟩ ∧
    owed.sched.ready = none ∧ owed.walk.sched.ready = some ⟨.interleave, 5, 0⟩ := by decide +kernel

/-- One state for each move of the walk, and the boundary of a short cycle and of a long one. -/
theorem witness_WalkMovesAndTheCycleBoundary :
    let run (h : Health) : State := { net h with sched := { base.sched with runState := .running } }
    let main (h : Health) (d : Sched → Sched) : State := { run h with
      sched := (d { (run h).sched with phase := .main, sweepAddr := 31 }) }
    let il (s : State) : State := { s with tables := { s.tables with active := { tables5 with
      ilLen := 2, interleave := Vector.replicate 4 5 } } }
    let owed (h : Health) : State := il (main h fun d => { d with spacing := 4, ilPointer := 1 })
    let timed (n : Nat) : State := { (main .offline fun d => { d with mainIndex := 1, cycleStart := some 0 }) with
      now := n
      nodes := bankSet base.nodes 5 ⟨.offline, 3, 2, false, 0, 0⟩
      tables := { (net .online).tables with active := { tables5 with
        line := { LineParams.reset with cycleMinPeriod := 100 } } } }
    (run .offline).dueProbe = some 5 ∧ (run .offline).walkMove.2 = false ∧ (run .online).dueProbe = none ∧
    (run .online).walkMove.1.sched.phase = .main ∧ (run .online).walkMove.2 = true ∧
    (owed .offline).walkMove.1.sched.ilPointer = 0 ∧ (owed .online).walkMove.1.sched.ready = some ⟨.interleave, 5, 1⟩ ∧
    (main .online id).walkMove.1.sched.ready = some ⟨.main, 5, 0⟩ ∧
    (main .offline id).walkMove.1.sched.mainIndex = 1 ∧ (timed 99).walkMove = ((timed 99).cycleBoundary, false) ∧
    (timed 99).cycleBoundary.sched.minWait = some 100 ∧ (timed 100).cycleBoundary.sched.minWait = none ∧
    (timed 100).cycleBoundary.sched.overrun = 0 ∧ (timed 101).cycleBoundary.sched.overrun = 1 ∧
    (timed 101).cycleBoundary.notices.waiting = [.cycleOverrun] ∧
    ((timed 101).cycleBoundary.node 5).countdown = 1 ∧ (run .online).sched.attached = none ∧
    (net .online).walk = net .online := by decide +kernel

theorem witness_ClearSafeAndRestartWarm :
    ready (safe base) ⟨0, 0x44, 1, []⟩ = true ∧ code (.clearSafe 1 []) (safe base) = 0 ∧
    ready base ⟨0, 0x44, 1, []⟩ = true ∧ code (.clearSafe 1 []) base = 0x42 ∧
    ready base ⟨0, 0x45, 1, []⟩ = true ∧
    (after (.restartWarm 1 []) base).map (·.link.restartPending) = some (some 1) := by decide +kernel

/-- The silence timer due: with SAFE on, with nothing held, with a PASS and with a segment in GAP_WAIT. -/
theorem witness_SilenceExpiryEntersSafe :
    let due (s : State) : State := { s with link := { s.link with silenceTimer := some 0 } }
    let pass := due { queued [entry (.pass [1]) 7 .onLine] [] with line :=
      (onLine (.gapWait ⟨.pass [1], 5, .demand .urgent, 1⟩ none)).line }
    let segment := due { moving .online .running 33 .onLine with line :=
      (onLine (.gapWait ⟨.segment 0 false false [], 5, .bulk, 1⟩ none)).line }
    let detached : State := { segment with bulk := bulk5 (.ended .aborted) 33 .detached }
    (due (safe base)).txSettled = true ∧ (due (safe base)).decided = true ∧ (after .silenceTimerExpiry (due (safe base))).isSome ∧
    (due base).line.phase.withdrawn = none ∧
    (after .silenceTimerExpiry (due base)).map (fun t => (t.sched.safe, t.sched.safeBroadcast, t.line.phase)) =
      some (true, false, .gapWait ⟨.safe, 31, .none, 1⟩ (some 5)) ∧
    pass.line.phase.withdrawn ≠ none ∧
    (after .silenceTimerExpiry (busy pass)).map (fun t => (t.line.phase, t.queue.urgent, t.link.replies)) =
      some (.gapWait ⟨.safe, 31, .none, 1⟩ (some 5), [], [⟨0x85, 0x93, 7, [0x27]⟩]) ∧
    segmentWithdrawn segment.line.phase.withdrawn = true ∧ segment.bulk.segPhase = .onLine ∧
    (after .silenceTimerExpiry (busy segment)).map (fun t => (t.bulk.state, t.bulk.attempts, t.bulk.segPhase)) =
      some (.suspended .safe, 0, .none) ∧
    segmentWithdrawn detached.line.phase.withdrawn = true ∧ detached.bulk.segPhase = .detached ∧
    (after .silenceTimerExpiry (busy detached)).map (fun t => (t.bulk.state, t.bulk.segPhase)) =
      some (.ended .aborted, .none) := by decide +kernel

/-! ### Witnesses: demand requests -/

/-- The part with node 5 ONLINE, its image valid and of a given age. -/
def aged (age : Half) : State :=
  { net .online with images := bankSet base.images 5 ⟨true, [1, 2], 0, 1, age, false, [0, 0]⟩ }

theorem witness_ReadInputDecidesFreshness :
    let plain : UpFrame := ⟨5, 0x10, 1, [0]⟩
    let fresh : UpFrame := ⟨5, 0x10, 1, [4, 0, 9]⟩
    let read : Instr := .readInput 5 1 [4, 0, 9]
    let held := entry .refresh 7 .queued
    Command.readInput.demandFields [0] = some ⟨0, false, none, none, false, []⟩ ∧
    Command.readInput.demandFields [4, 0, 9] = some ⟨4, false, some 9, none, false, []⟩ ∧
    Command.readInput.demandFields [5, 0, 9] = some ⟨5, true, some 9, none, false, []⟩ ∧
    ready base plain = true ∧ code (.readInput 5 1 [0]) base = 0x20 ∧
    ready (net .online) plain = true ∧ code (.readInput 5 1 [0]) (net .online) = 0 ∧
    ready (net .offline) fresh = true ∧ code read (net .offline) = 0x34 ∧
    ready (aged 9) fresh = true ∧ code read (aged 9) = 0 ∧
    ready (aged 10) fresh = true ∧ (after read (waiting (aged 10))).map (·.queue.normal) =
      some [entry .refresh 1 .queued] ∧
    ready (queued eight []) fresh = true ∧ code read (queued eight []) = 0x10 ∧
    ready (queued [held] []) fresh = true ∧ (after read (queued [held] [])).map (·.queue.urgent) =
      some [⟨.refresh, 5, [⟨7, none⟩, ⟨1, none⟩], 0, .queued⟩] ∧
    ready (queued [] [held]) fresh = true ∧
    (after (.readInput 5 1 [5, 0, 9]) (queued [] [held])).map (·.queue.normal) = some [] := by decide +kernel

theorem witness_WriteOutputSetsTheRecord :
    let none0 : State := { net .online with tables := { (net .online).tables with active :=
      { tables5 with nodes := bankSet tables5.nodes 5 { cfg5 with outputLen := 0 } } } }
    let write (n : Nat) : Instr := .writeOutput 5 1 (List.replicate n 7)
    ready base ⟨5, 0x11, 1, [7, 7]⟩ = true ∧ code (write 2) base = 0x20 ∧
    ready (net .offline) ⟨5, 0x11, 1, [7, 7]⟩ = true ∧ code (write 2) (net .offline) = 0x21 ∧
    ready none0 ⟨5, 0x11, 1, [7, 7]⟩ = true ∧ code (write 2) none0 = 0x15 ∧
    ready (net .online) ⟨5, 0x11, 1, [7]⟩ = true ∧ code (write 1) (net .online) = 0x14 ∧
    code (write 3) (net .online) = 0x14 ∧ code (write 2) (net .online) = 0x01 ∧
    ready (safe (net .online)) ⟨5, 0x11, 1, [7, 7]⟩ = true ∧ code (write 2) (safe (net .online)) = 0x02 := by
  decide +kernel

theorem witness_ExchangeMakesAnEntry :
    let none0 : State := { net .online with tables := { (net .online).tables with active :=
      { tables5 with nodes := bankSet tables5.nodes 5 { cfg5 with outputLen := 0 } } } }
    let f (p : List Byte) : UpFrame := ⟨5, 0x12, 1, p⟩
    let c (p : List Byte) : Instr := .exchange 5 1 p
    Command.exchange.demandFields [8, 7, 7] = some ⟨8, false, none, none, true, [7, 7]⟩ ∧
    Command.exchange.demandFields [1] = some ⟨1, true, none, none, false, []⟩ ∧
    ready base (f [1]) = true ∧ code (c [1]) base = 0x20 ∧
    ready (net .offline) (f [1]) = true ∧ code (c [1]) (net .offline) = 0x21 ∧
    ready none0 (f [8, 7]) = true ∧ code (c [8, 7]) none0 = 0x15 ∧
    ready (net .online) (f [8, 7]) = true ∧ code (c [8, 7]) (net .online) = 0x14 ∧
    ready (queued eight []) (f [1]) = true ∧ code (c [1]) (queued eight []) = 0x10 ∧
    ready (net .online) (f [8, 7, 7]) = true ∧
    (after (c [8, 7, 7]) (waiting (net .online))).map (fun t => (t.queue.normal, (t.image 5).outData)) =
      some ([entry .exchange 1 .queued], [7, 7]) ∧
    (after (c [1]) (waiting (net .online))).map (·.queue.urgent) = some [entry .exchange 1 .queued] := by decide +kernel

theorem witness_PassAndProbeMakeEntries :
    let f : UpFrame := ⟨5, 0x13, 1, [0, 9]⟩
    let g : UpFrame := ⟨5, 0x14, 1, [0]⟩
    let c : Instr := .pass 5 1 [0, 9]
    let d : Instr := .probe 5 1 [0]
    let locked := moving .online .running 33 .none
    Command.pass.demandFields [0, 9] = some ⟨0, false, none, none, false, [9]⟩ ∧
    Command.probe.demandFields [0] = some ⟨0, false, none, none, false, []⟩ ∧
    ready base f = true ∧ code c base = 0x20 ∧ ready (net .offline) f = true ∧ code c (net .offline) = 0x21 ∧
    ready (safe (net .online)) f = true ∧ code c (safe (net .online)) = 0x27 ∧
    ready locked f = true ∧ locked.bulk.state.active = true ∧ code c locked = 0x25 ∧
    ready (queued eight []) f = true ∧ code c (queued eight []) = 0x10 ∧
    ready (net .online) f = true ∧
    (after c (waiting (net .online))).map (·.queue.normal) = some [entry (.pass [9]) 1 .queued] ∧
    ready base g = true ∧ code d base = 0x20 ∧ ready (queued eight []) g = true ∧
    code d (queued eight []) = 0x10 ∧ ready (net .offline) g = true ∧
    (after d (waiting (net .offline))).map (·.queue.normal) = some [entry .probe 1 .queued] := by decide +kernel

theorem witness_CancelAndDeadlineRemoveOneTag :
    let two : Entry := ⟨.refresh, 5, [⟨7, some 0⟩, ⟨8, none⟩], 0, .queued⟩
    let f : UpFrame := ⟨0, 0x46, 1, [7]⟩
    let c : Instr := .cancel 1 [7]
    let flying := queued [entry .probe 7 .onLine] []
    ready base f = true ∧ code c base = 0x33 ∧ ready flying f = true ∧ code c flying = 0x32 ∧
    ready (queued [two] []) f = true ∧
    (after c (queued [two] [])).map (fun t => (t.queue.urgent, t.link.replies)) =
      some ([⟨.refresh, 5, [⟨8, none⟩], 0, .queued⟩],
        [⟨0x85, 0x90, 7, [0x31]⟩, ⟨0x80, 0xC6, 1, [0x00]⟩]) ∧
    (queued [two] []).txSettled = true ∧
    (after (.deadlineExpiry 7) (queued [two] [])).map (fun t => (t.queue.urgent, t.link.replies)) =
      some ([⟨.refresh, 5, [⟨8, none⟩], 0, .queued⟩], [⟨0x85, 0x90, 7, [0x30]⟩]) := by decide +kernel

/-! ### Witnesses: bulk transfers -/

theorem witness_BulkOpenStartsARecord :
    let f (h l : Byte) : UpFrame := ⟨0, 0x50, 1, [5, h, l]⟩
    ready (moving .online .running 33 .none) (f 0 1) = true ∧
    code (.bulkOpen 1 [5, 0, 1]) (moving .online .running 33 .none) = 0x26 ∧
    ready base (f 0 1) = true ∧ code (.bulkOpen 1 [5, 0, 1]) base = 0x20 ∧
    ready (net .offline) (f 0 1) = true ∧ ready (net .offline) (f 2 0) = true ∧
    (after (.bulkOpen 1 [5, 0, 1]) (net .offline)).map (fun t => (t.bulk.state, t.bulk.segCount)) =
      some (.filling, 1) ∧
    (after (.bulkOpen 1 [5, 2, 0]) (net .offline)).map (fun t => (t.bulk.declared, t.bulk.segCount)) =
      some (some 512, 16) := by decide +kernel

theorem witness_BulkDataFillsTheBuffer :
    let f (p : List Byte) : UpFrame := ⟨0, 0x51, 1, p⟩
    let filling := moving .online .filling 31 .none
    let c (p : List Byte) : Instr := .bulkData 1 p
    filling.bulk.sound = true ∧ filling.txSettled = true ∧ filling.decided = true ∧ filling.bulk.declared = some 33 ∧
    filling.dispatches (f [1, 255]) = true ∧ code (c [1, 255]) filling = 0x14 ∧
    filling.dispatches (f [255, 255]) = true ∧ code (c [255, 255]) filling = 0x14 ∧
    ready (moving .online .running 33 .none) (f [0, 31, 1]) = true ∧
    code (c [0, 31, 1]) (moving .online .running 33 .none) = 0x42 ∧
    ready filling (f [0, 30, 1]) = true ∧ code (c [0, 30, 1]) filling = 0x43 ∧
    ready filling (f [0, 31, 1, 2, 3]) = true ∧ code (c [0, 31, 1, 2, 3]) filling = 0x14 ∧
    ready filling (f [0, 31, 1, 2]) = true ∧
    (after (c [0, 31, 1, 2]) filling).map (fun t => (t.bulk.filled, t.bulk.buffer)) =
      some (33, [(31, 1), (32, 2)]) := by decide +kernel

theorem witness_BulkStartRunsTheTransfer :
    let f : UpFrame := ⟨0, 0x52, 1, []⟩
    let c : Instr := .bulkStart 1 []
    let full (h : Health) := moving h .filling 33 .none
    let held : State := { full .online with queue := ⟨[entry (.pass [1]) 7 .onLine], []⟩ }
    ready base f = true ∧ code c base = 0x42 ∧ code c (idle (full .online)) = 0x01 ∧
    (after c (idle (full .online))).map (·.bulk.segPhase) = some .onLine ∧
    ready (moving .online .filling 32 .none) f = true ∧ code c (moving .online .filling 32 .none) = 0x44 ∧
    ready (full .disabled) f = true ∧ code c (full .disabled) = 0x20 ∧
    ready (full .offline) f = true ∧ code c (full .offline) = 0x21 ∧
    ready held f = true ∧ (∃ e ∈ held.queue.entries, e.kind.isPass = true ∧ e.node = 5) ∧ code c held = 0x24 ∧
    ready (safe (full .online)) f = true ∧ code c (safe (full .online)) = 0x27 ∧
    ready (full .online) f = true ∧ code c (full .online) = 0x01 := by decide +kernel

theorem witness_BulkSuspendResumeAndBackoff :
    let run := moving .online .running 33 .none
    let wait := moving .online (.waiting 0) 33 .none
    let held := moving .online (.suspended .safe) 33 .none
    ready run ⟨0, 0x53, 1, []⟩ = true ∧ code (.bulkSuspend 1 []) run = 0 ∧
    ready wait ⟨0, 0x53, 1, []⟩ = true ∧ code (.bulkSuspend 1 []) wait = 0 ∧
    ready held ⟨0, 0x53, 1, []⟩ = true ∧ code (.bulkSuspend 1 []) held = 0x42 ∧
    ready run ⟨0, 0x54, 1, []⟩ = true ∧ code (.bulkResume 1 []) run = 0x42 ∧
    ready (safe held) ⟨0, 0x54, 1, []⟩ = true ∧ code (.bulkResume 1 []) (safe held) = 0x27 ∧
    ready held ⟨0, 0x54, 1, []⟩ = true ∧ code (.bulkResume 1 []) held = 0 ∧
    wait.bulk.state = .waiting 0 ∧
    (after .backoffExpiry wait).map (·.bulk.state) = some .running ∧
    (after .backoffExpiry (idle wait)).map (·.bulk.segPhase) = some .onLine := by decide +kernel

theorem witness_BulkAbortEndsTheTransfer :
    let f : UpFrame := ⟨0, 0x55, 1, []⟩
    let c : Instr := .bulkAbort 1 []
    let filling := moving .online .filling 1 .none
    let sent := moving .online .running 33 .onLine
    let unsent := moving .online .running 33 .none
    let lost := moving .offline .running 33 .onLine
    let ended := moving .online (.ended .done) 33 .none
    ready base f = true ∧ base.bulk.state = .empty ∧ code c base = 0x42 ∧
    ready ended f = true ∧ code c ended = 0x42 ∧ ready filling f = true ∧ code c filling = 0 ∧
    sent.accepts f = true ∧ sent.bulk.state.active = true ∧ sent.bulk.node = some 5 ∧
    (after c (busy sent)).map (fun t => (t.bulk.segPhase, t.bulk.cancel)) = some (.detached, some (5, 0)) ∧
    unsent.accepts f = true ∧ (after c (busy unsent)).map (·.bulk.cancel) = some none ∧
    lost.accepts f = true ∧ (after c (busy lost)).map (·.bulk.cancel) = some none ∧
    (after c (busy (idle { moving .online (.suspended .user) 33 .none with bulk :=
      { bulk5 (.suspended .user) 33 .none with acked := 1 } }))).map (fun t => (t.bulk.cancel, t.bulk.cancelOnLine)) =
      some (none, true) := by decide +kernel

theorem witness_BulkStatusAndClear :
    ready base ⟨0, 0x56, 1, []⟩ = true ∧ (answer (.bulkStatus 1 []) base).length = 17 ∧
    ready (moving .online .filling 9 .detached) ⟨0, 0x57, 1, []⟩ = true ∧
    (after (.bulkClear 1 []) (moving .online .filling 9 .detached)).map
      (fun t => (t.bulk.state, t.bulk.segPhase)) = some (.empty, .detached) ∧
    ready (moving .online (.ended .done) 33 .none) ⟨0, 0x57, 1, []⟩ = true ∧
    code (.bulkClear 1 []) (moving .online (.ended .done) 33 .none) = 0 ∧
    ready base ⟨0, 0x57, 1, []⟩ = true ∧ code (.bulkClear 1 []) base = 0x42 := by decide +kernel

/-- The attempts field at the retry limit and one below it, and the busy count at 6 and 7. -/
theorem witness_SegmentOutcomesMoveTheTransfer :
    let o : Order := ⟨.segment 0 true false [], 5, .bulk, 1⟩
    let run (b a : Nat) : State := { moving .online .running 33 .onLine with bulk :=
      { bulk5 .running 33 .onLine with busy := b, attempts := a } }
    let state (s : State) (x : LineOutcome) : BulkState := (s.deliver o false x).bulk.state
    let told (s : State) (x : LineOutcome) : List Notice := (s.deliver o false x).notices.waiting
    let cut : State := { run 0 1 with bulk := bulk5 (.ended .aborted) 33 .detached }
    let cancelling : State := { run 0 1 with bulk := { bulk5 (.ended .aborted) 33 .none with cancelOnLine := true } }
    let near : State := { run 0 1 with nodes := bankSet base.nodes 5 ⟨.suspect, 2, 0, false, 0, 0⟩ }
    (run 6 1).bulk.state = .running ∧ (run 6 1).bulk.segPhase = .onLine ∧ (run 6 1).bulk.cancelOnLine = false ∧
    state (run 6 1) (.replied .segAck) = .ended .done ∧
    state (run 6 1) (.replied .segNakBusy) = .waiting 1000 ∧
    state (run 7 1) (.replied .segNakBusy) = .ended (.failed .nodeBusy) ∧
    (1 < 1 + (cfg5.retryLimit.toNat)) ∧ state (run 0 1) (.failure .timeout) = .running ∧
    ¬ (2 < 1 + (cfg5.retryLimit.toNat)) ∧
    state (run 0 2) (.failure .timeout) = .ended (.failed .lineFailure) ∧
    ((near.node 5).take (near.cfg 5) (.failure .timeout)).health = .offline ∧ near.health 5 ≠ .offline ∧
    state near (.failure .timeout) = .ended (.failed .nodeOffline) ∧
    told (run 6 1) (.replied .segAck) = [.bulkEnd 5 .done 1] ∧
    told near (.failure .timeout) = [.health 5 0, .bulkEnd 5 (.failed .nodeOffline) 0] ∧
    cut.bulk.state.active = false ∧ (cut.deliver o false (.replied .segAck)).bulk.segPhase = .none ∧
    (cancelling.deliver o false (.failure .timeout)).bulk.cancelOnLine = false := by decide +kernel

/-! ### Witnesses: notices and the transmitter -/

/-- A queue of so many BULK_END notices. -/
def notices (n : Nat) : NoticeQueue := ⟨none, List.replicate n (.bulkEnd 5 .done 1), 7, 254, false⟩

theorem witness_OffersJoinAppendOrAreLost :
    let q (w : Notice) : NoticeQueue := ⟨none, [.bulkEnd 5 .done 1, w], 7, 0, false⟩
    (∀ w ∈ ([.bulkEnd 5 .done 1] : List Notice), w.key ≠ some (2, 5)) ∧
    (q (.change 5 255)).offer (.change 5 0) = q (.change 5 255) ∧
    (q (.change 5 254)).offer (.change 5 0) = q (.change 5 255) ∧
    (∀ w ∈ ([.bulkEnd 5 .done 1] : List Notice), w.key ≠ some (3, 5)) ∧
    (q (.health 5 0)).offer (.health 5 0) = q (.health 5 1) ∧
    (.attention 5) ∈ (q (.attention 5)).waiting ∧ .cycleOverrun ∈ (q .cycleOverrun).waiting ∧
    Notice.safeEntered.key = none ∧ Notice.safeEntered ≠ .overflow ∧
    ((notices 23).offer .safeEntered).waiting.length = 24 ∧
    (notices 24).offer .safeEntered = { notices 24 with lost := 255, overflowPending := true } := by
  decide +kernel

/-- The part with a notice in flight, its resend timer at a tick, and a transmitter state. -/
def acked (tx : Tx) (t : Option Nat) : State :=
  { base with
    notices := ⟨some ⟨.overflow 2, 9, t⟩, [.safeEntered], 10, 3, true⟩
    link := { base.link with tx := tx } }

theorem witness_NoticeAckAndResendTimer :
    let f : UpFrame := ⟨0, 0x47, 1, [9]⟩
    let busy := acked (.sendingNotice ⟨0x80, 0xE0, 9, []⟩) (some 5)
    ready base f = true ∧ base.notices.inFlight = none ∧ code (.noticeAck 1 [9]) base = 0x45 ∧
    ready (acked .idle (some 5)) ⟨0, 0x47, 1, [8]⟩ = true ∧
    code (.noticeAck 1 [8]) (acked .idle (some 5)) = 0x45 ∧
    busy.accepts f = true ∧ busy.link.tx ≠ .idle ∧ busy.decided = true ∧
    (after (.noticeAck 1 [9]) busy).map (·.notices) = some ⟨none, [.safeEntered, .overflow], 10, 1, false⟩ ∧
    (acked .idle (some 5)).accepts f = true := by decide +kernel

theorem witness_NoticeAckAndResendTimer_expiry :
    let busy := acked .sendingReply (some 0)
    let idle := acked .idle (some 0)
    busy.link.tx ≠ .idle ∧
    (after .noticeResendTimerExpiry busy).map (·.notices.inFlight) = some (some ⟨.overflow 2, 9, none⟩) ∧
    idle.resetAsserted = false ∧ idle.link.restartPending = none ∧ idle.link.replies = [] ∧
    (after .noticeResendTimerExpiry idle).map (·.link.tx) =
      some (.sendingNotice ⟨0x80, 0xE0, 9, [0x09, 0, 2]⟩) := by decide +kernel

theorem witness_FrameEndTakesTheNextFrame :
    let r : UpFrame := ⟨0x80, 0xA0, 1, [0]⟩
    let first : State := { sending .sendingReply [r] 1 with notices := ⟨none, [.safeEntered], 4, 0, false⟩ }
    let turn : State := { sending .sendingReply [r, r] 4 with notices := ⟨none, [.safeEntered], 4, 0, false⟩ }
    let resend : State := { sending .sendingReply [r] 1 with notices := ⟨some ⟨.safeEntered, 4, none⟩, [], 5, 0, false⟩ }
    let more := sending .sendingReply [r, r] 3
    let quiet := sending (.sendingNotice ⟨0x80, 0xE0, 4, [8, 0]⟩) [] 0
    let tx (s : State) : Option Tx := (after .upstreamFrameSent s).map (·.link.tx)
    tx first = some (.sendingNotice ⟨0x80, 0xE0, 4, [8, 0]⟩) ∧
    tx turn = some (.sendingNotice ⟨0x80, 0xE0, 4, [8, 0]⟩) ∧
    tx resend = some (.sendingNotice ⟨0x80, 0xE0, 4, [8, 0]⟩) ∧
    (after .upstreamFrameSent more).map (fun t => (t.link.tx, t.link.replyRun, t.link.replies)) =
      some (.sendingReply, 4, [r]) ∧
    tx quiet = some .idle := by decide +kernel

/-! ### Witnesses: the line -/

/-- An order from the schedule to node 5. -/
def order (r : Request) : Order := ⟨r, 5, .none, 1⟩

theorem witness_OrdersWaitOutTheGap :
    let early : State := { net .online with now := 4 }
    let late : State := { net .online with now := 5 }
    let char : State := { late with line := { late.line with charIn := true } }
    let due (r : Request) : State := onLine (.gapWait (order r) (some 0))
    let set : State := { due .exchange with
      images := bankSet base.images 5 ⟨false, [0, 0], 0, 0, 65535, true, [1, 2]⟩ }
    let frame (s : State) : Option (List Byte × Bool) := (after .gapTimerExpiry s).bind fun t =>
      match t.line.phase with
      | .sending _ f out => some (f, out)
      | _ => none
    early.line.phase = .idle ∧ early.line.quietSince + early.tables.active.line.downGap.toNat = 5 ∧
    (early.acceptOrder (order .status)).line.phase = .gapWait (order .status) (some 5) ∧
    (late.acceptOrder (order .status)).line.phase =
      .sending (order .status) (downFrame 5 0x02 []) false ∧
    (char.acceptOrder (order .status)).line.phase = .gapWait (order .status) none ∧
    frame set = some (downFrame 5 0x01 [0, 1, 2], true) ∧
    frame (safe set) = some (downFrame 5 0x01 [1], false) ∧
    frame (due .exchange) = some (downFrame 5 0x01 [1], false) ∧
    frame (due .status) = some (downFrame 5 0x02 [], false) ∧
    frame (due (.pass [9])) = some (downFrame 5 0x03 [9], false) ∧
    frame (due (.segment 15 true false [9])) = some (downFrame 5 0x04 [15, 1, 9], false) ∧
    frame (due (.segment 3 false true [])) = some (downFrame 5 0x04 [3, 2], false) ∧
    frame (due .safe) = some (downFrame 5 0x0F [], false) := by decide +kernel

theorem witness_LastCharacterEndsTheFrame :
    let s (r : Request) : State := onLine (.sending (order r) [] false)
    let cut (p : LinePhase) (c : Bool) : State :=
      { onLine p with line := { (onLine p).line with cutChar := true, charIn := c } }
    phaseAfter .lastCharacterSent (s .safe) = some .idle ∧
    phaseAfter .lastCharacterSent (s .status) = some (.awaiting (order .status) false 100) ∧
    phaseAfter .lastCharacterSent (cut .idle false) = some .idle ∧
    phaseAfter .lastCharacterSent (cut (.gapWait (order .status) none) true) =
      some (.gapWait (order .status) none) ∧
    phaseAfter .lastCharacterSent (cut (.gapWait (order .status) none) false) =
      some (.gapWait (order .status) (some 5)) := by decide +kernel

theorem witness_DownstreamCharactersAreTaken :
    let o := order .status
    let foreign : State := { onLine (.awaiting o false 9) with line :=
      { (onLine (.awaiting o false 9)).line with charIn := true, charForeign := true } }
    let strays (c : Instr) (s : State) : Option (LinePhase × Bool × Half) := (after c s).map fun t =>
      (t.line.phase, t.line.charForeign, t.line.counters.strayBytes)
    let got (g : List Byte) : State := onLine (.receiving o false g (some 9))
    let cut : State := { onLine (.gapWait o none) with line :=
      { (onLine (.gapWait o none)).line with cutChar := true } }
    phaseAfter .downstreamCharacterStart (onLine .idle) = some .idle ∧
    phaseAfter (.strayByte 0xC6) (onLine .idle) = some .idle ∧
    phaseAfter .downstreamCharacterStart (onLine (.gapWait o (some 9))) = some (.gapWait o none) ∧
    phaseAfter (.strayByte 0) (onLine (.gapWait o none)) = some (.gapWait o (some 5)) ∧
    phaseAfter (.strayByte 0) cut = some (.gapWait o none) ∧
    phaseAfter .downstreamCharacterStart (onLine (.sending o [] false)) = some (.sending o [] false) ∧
    phaseAfter (.strayByte 0) (onLine (.sending o [] false)) = some (.sending o [] false) ∧
    phaseAfter .downstreamCharacterStart (onLine (.awaiting o false 9)) = some (.awaiting o false 9) ∧
    phaseAfter (.strayByte 0xC7) (onLine (.awaiting o false 9)) = some (.awaiting o false 9) ∧
    phaseAfter .replySyncArrival (onLine (.awaiting o false 9)) = some (.receiving o false [] (some 10)) ∧
    (after .downstreamCharacterStart (onLine (.sending o [] false))).map (·.line.charForeign) = some true ∧
    strays .replySyncArrival foreign = some (.awaiting o false 9, false, 1) ∧
    strays (.strayByte 0xC6) foreign = some (.awaiting o false 9, false, 1) ∧
    phaseAfter .downstreamCharacterStart (got []) = some (.receiving o false [] none) ∧
    phaseAfter (.replyByteCollected 0x85) (got []) = some (.receiving o false [0x85] (some 10)) ∧
    phaseAfter (.replyByteCollected 40) (got [0x85, 0x81]) =
      some (.receiving o false [0x85, 0x81, 40] (some 10)) ∧
    phaseAfter (.replyByteCollected 41) (got [0x85, 0x81]) = some (.draining o false (some 10)) ∧
    phaseAfter (.replyByteCollected 7) (got [0x85, 0x81, 0]) =
      some (.receiving o false [0x85, 0x81, 0, 7] (some 10)) ∧
    phaseAfter .downstreamCharacterStart (onLine (.draining o false (some 9))) = some (.draining o false none) ∧
    phaseAfter (.replyByteCollected 7) (onLine (.draining o false none)) =
      some (.draining o false (some 10)) := by decide +kernel

/-- The verdict on a reply to an order to node 5 with a good check pair. -/
def verdict (r : Request) (addr kind : Byte) (payload : List Byte) : LineOutcome :=
  judgeReply cfg5 (order r) (withCheck (addr :: kind :: natByte payload.length :: payload))

theorem witness_RepliesAreValidated :
    verdict .status 0x05 0x82 [0, 7] = .failure .malformed ∧
    verdict .status 0x86 0x82 [0, 7] = .failure .wrongSource ∧
    verdict .status 0x85 0x8E [3] = .nodeError 3 ∧
    verdict .exchange 0x85 0x81 [0, 1, 2] = .replied (.data 0 [1, 2]) ∧
    verdict .exchange 0x85 0x81 [0, 1] = .failure .malformed ∧
    verdict .status 0x85 0x82 [0, 7] = .replied (.statusReply 0 7) ∧
    verdict (.pass [1]) 0x85 0x83 [9] = .replied (.passReply 9 []) ∧
    verdict (.pass [1]) 0x85 0x83 (9 :: List.replicate 32 1) = .replied (.passReply 9 (List.replicate 32 1)) ∧
    verdict (.pass [1]) 0x85 0x83 (9 :: List.replicate 33 1) = .failure .malformed ∧
    verdict (.segment 15 true false []) 0x85 0x84 [15] = .replied .segAck ∧
    verdict (.segment 15 true false []) 0x85 0x84 [14] = .failure .malformed ∧
    verdict (.segment 15 true false []) 0x85 0x85 [15, 1] = .replied .segNakBusy ∧
    verdict (.segment 15 true false []) 0x85 0x85 [15, 2] = .replied .segNakReject := by decide +kernel

theorem witness_AttemptsEndInAnOutcome :
    let o := order .status
    let pair := checkPair [0x85, 0x82, 2, 0x80, 7]
    let full := onLine (.receiving o false [0x85, 0x82, 2, 0x80, 7, pair.1] none)
    let health (c : Instr) (s : State) : Option NodeRt := (after c s).map (·.node 5)
    replyLastByte [0x85, 0x82, 2, 0x80, 7, pair.1] = true ∧ full.resetAsserted = false ∧
    health (.replyFrameReceived pair.2) full = some ⟨.online, 0, 0, true, 1, 0⟩ ∧
    health (.replyFrameReceived (pair.2 + 1)) full = some ⟨.suspect, 1, 0, false, 1, 1⟩ ∧
    health .replyTimerExpiry (onLine (.awaiting o false 0)) = some ⟨.suspect, 1, 0, false, 1, 1⟩ ∧
    health .downstreamInterByteExpiry (onLine (.receiving o false [] (some 0))) =
      some ⟨.suspect, 1, 0, false, 1, 1⟩ ∧
    health .downstreamInterByteExpiry (onLine (.draining o false (some 0))) =
      some ⟨.suspect, 1, 0, false, 1, 1⟩ ∧
    health .replyTimerExpiry { onLine (.awaiting o false 0) with
      nodes := bankSet base.nodes 5 ⟨.suspect, 2, 0, false, 0, 0⟩ } = some ⟨.offline, 3, 8, false, 1, 1⟩ ∧
    health (.replyFrameReceived pair.2) { full with
      nodes := bankSet base.nodes 5 ⟨.offline, 3, 4, false, 0, 0⟩ } = some ⟨.online, 0, 0, true, 1, 0⟩ := by
  decide +kernel

/-- A recovery with the ATTENTION bit, an entry to OFFLINE, and DATA replies with and without a change. -/
theorem witness_OutcomesOfferTheirNotices :
    let o := order .exchange
    let lost : State := { net .offline with nodes := bankSet base.nodes 5 ⟨.offline, 3, 4, false, 0, 0⟩ }
    let near : State := { net .suspect with nodes := bankSet base.nodes 5 ⟨.suspect, 2, 0, false, 0, 0⟩ }
    let cut : State := { near with bulk := bulk5 (.ended .aborted) 33 .detached }
    let same : State := { net .online with images := bankSet base.images 5 ⟨true, [1, 2], 0, 1, 9, false, [0, 0]⟩ }
    let told (s : State) (x : LineOutcome) : List Notice := (s.deliver o false x).notices.waiting
    o.owner = .none ∧ lost.bulk.state.active = false ∧
    told lost (.replied (.statusReply 0x80 7)) = [.health 5 0, .attention 5] ∧
    told near (.failure .timeout) = [.health 5 0] ∧ cut.bulk.segPhase = .detached ∧ cut.bulk.state.active = false ∧
    (cut.deliver ⟨.segment 0 false false [], 5, .bulk, 1⟩ false (.failure .timeout)).notices.waiting = [.health 5 0] ∧
    same.cfg 5 = cfg5 ∧ (same.image 5).isChange .anyChange 0 [1, 2] = false ∧
    (same.image 5).isChange .anyChange 0 [1, 3] = true ∧ (same.image 5).isChange .statusOnly 0 [1, 3] = false := by
  decide +kernel

/-- A detached step, an attached step at and below its retry limit, and a final step of each kind. -/
theorem witness_ScheduleOutcomesMoveThePosition :
    let o : Order := ⟨.exchange, 5, .schedule, 1⟩
    let held (a : Option Attached) (d : Option SchedStep) : State := { net .online with sched :=
      { base.sched with runState := .suspended, attached := a, detached := d } }
    let st (k : StepKind) : SchedStep := ⟨k, 5, 0⟩
    let out (s : State) : Sched := (s.deliver o false (.failure .timeout)).sched
    (held none (some (st .main))).sched.detached = some (st .main) ∧
    (out (held none (some (st .main)))).detached = none ∧
    (out (held (some ⟨st .main, 1, false⟩) none)).attached = some ⟨st .main, 1, true⟩ ∧
    ¬ (2 < 1 + cfg5.retryLimit.toNat) ∧
    (out (held (some ⟨st .main, 2, false⟩) none)).mainIndex = 1 ∧
    (out (held (some ⟨st .probe, 2, false⟩) none)).sweepAddr = 1 ∧
    (out (held (some ⟨st .interleave, 2, false⟩) none)).spacing = 0 := by decide +kernel

theorem witness_DemandOutcomesAnswerTheTags :
    let o : Order := ⟨.pass [1], 5, .demand .urgent, 1⟩
    let e (k : EntryKind) (a : Nat) : Entry := { entry k 7 .onLine with attempts := a }
    let s (k : EntryKind) (a : Nat) : State := queued [e k a] []
    let near : State := { queued [e .exchange 1, entry .exchange 8 .queued] [] with
      nodes := bankSet base.nodes 5 ⟨.suspect, 2, 0, false, 0, 0⟩ }
    let end_ (s : State) (x : LineOutcome) : List Entry × List (List Byte) :=
      ((s.deliver o true x).queue.urgent, (s.deliver o true x).link.replies.map (·.payload))
    (s .probe 1).queue.fifo .urgent = [e .probe 1] ∧ (e .probe 1).node = o.addr ∧
    ((s .probe 1).node 5).take cfg5 (.failure .timeout) = ⟨.suspect, 1, 0, false, 1, 1⟩ ∧
    end_ (s .refresh 1) (.replied (.statusReply 0 0)) = ([], [[0, 1, 255, 255, 0, 0]]) ∧
    end_ (s .exchange 1) (.nodeError 4) = ([], [[0x37, 1, 4]]) ∧
    end_ (s (.pass [1]) 1) (.replied (.passReply 9 [8])) = ([], [[0, 9, 8]]) ∧
    end_ (s .probe 1) (.replied (.statusReply 3 4)) = ([], [[0, 3, 4, 3]]) ∧
    end_ (s .exchange 2) (.failure .timeout) = ([], [[0x36, 1, 1]]) ∧
    end_ (s .probe 1) (.failure .timeout) = ([{ e .probe 1 with phase := .retryPending }], []) ∧
    end_ (safe (s (.pass [1]) 1)) (.failure .timeout) = ([], [[0x27]]) ∧
    (near.node 5).health = .suspect ∧ (near.queue.fifo .urgent).head?.map (·.phase) = some .onLine ∧
    end_ near (.failure .timeout) = ([], [[0x21], [0x36, 1, 1]]) := by decide +kernel

theorem witness_EntryToOfflineReachesTheQueues :
    let o : Order := ⟨.exchange, 5, .schedule, 1⟩
    let s : State := { moving .suspect .running 33 .none with
      nodes := bankSet base.nodes 5 ⟨.suspect, 2, 0, false, 0, 0⟩
      queue := ⟨[entry .probe 1 .queued, entry .exchange 2 .queued], [{ entry .probe 3 .queued with node := 6 }]⟩ }
    let idle_ : State := { s with bulk := Bulk.reset }
    let sent (cancel : Bool) : State := { s with bulk :=
      { bulk5 .running 33 .onLine with cancelOnLine := cancel } }
    s.health 5 ≠ .offline ∧ (s.deliver o false (.failure .timeout)).health 5 = .offline ∧
    s.bulk.node = some 5 ∧ s.bulk.state.active = true ∧
    (s.deliver o false (.failure .timeout)).queue =
      ⟨[entry .probe 1 .queued], [{ entry .probe 3 .queued with node := 6 }]⟩ ∧
    (s.deliver o false (.failure .timeout)).link.replies = [⟨0x85, 0x92, 2, [0x21]⟩] ∧
    (s.deliver o false (.failure .timeout)).notices.waiting = [.health 5 0, .bulkEnd 5 (.failed .nodeOffline) 0] ∧
    (idle_.deliver { o with owner := .none } false (.failure .timeout)).notices.waiting = [.health 5 0] ∧
    ((sent true).deliver { o with owner := .bulk } false (.failure .timeout)).bulk.cancelOnLine = false ∧
    ((sent false).deliver { o with owner := .bulk } false (.failure .timeout)).bulk.segPhase = .none ∧
    (entry .probe 7 .onLine).phase = .onLine ∧ (entry .probe 7 .onLine).node = 5 := by decide +kernel

/-! ### Witnesses: arbitration, the timebase and the laws -/

/-- The request and the owner of the order that ARBITRATION leaves the line controller with. -/
def ordered (s : State) : Option (Request × Owner) :=
  (after .arbitration s).bind fun t =>
    match t.line.phase with
    | .gapWait o _ => some (o.request, o.owner)
    | _ => none

/-- One state for each want of R122 that ARBITRATION orders, one with a cancel that is dropped, and one with no
want at all; each is IDLE and settled, its earlier wants absent. -/
theorem witness_ArbitrationOrdersTheFirstWant :
    let broadcast : State := { safe (net .online) with sched :=
      { (net .online).sched with safe := true, safeBroadcast := true } }
    let cancel (h : Health) : State := { net h with bulk :=
      { bulk5 (.ended .aborted) 33 .none with cancel := some (5, 1) } }
    let paced : State := { idle (moving .online .running 33 .none) with sched :=
      { (inRun .running).sched with ready := some ⟨.main, 5, 0⟩, pace := 4 } }
    let unpaced : State := { paced with sched := { paced.sched with pace := 3 } }
    let poll : State := { inRun .running with sched :=
      { (inRun .running).sched with ready := some ⟨.main, 5, 0⟩ } }
    let spent : State := { poll with queue := ⟨[], [entry .probe 1 .queued]⟩ }
    let credited : State := { spent with sched := { spent.sched with credit := 1 } }
    let probe : State := { poll with
      nodes := (net .offline).nodes
      sched := { poll.sched with ready := some ⟨.probe, 5, 5⟩ } }
    let retry : State := { poll with sched :=
      { poll.sched with ready := none, attached := some ⟨⟨.main, 5, 0⟩, 1, true⟩ } }
    let flying : State := { spent with queue := ⟨[], [entry .probe 1 .retryPending]⟩ }
    let failed : State := { poll with nodes := (net .offline).nodes }
    let lapsed : State := { retry with nodes := (net .offline).nodes }
    let held (s : State) : State := { s with
      nodes := bankSet base.nodes 5 ⟨.offline, 3, 4, false, 0, 0⟩
      sched := { s.sched with boundaryMark := false, cycleStart := some 0 }
      tables := { s.tables with commitPending := true } }
    (∀ s ∈ [broadcast, cancel .online, cancel .offline, paced, unpaced, poll, spent, credited, probe, retry,
      flying, net .online, idle (queued [entry .probe 1 .queued] []), failed, lapsed, held failed, held lapsed],
      s.line.phase = .idle ∧ s.txSettled = true) ∧
    ordered broadcast = some (.safe, .none) ∧
    ordered (idle (queued [entry .probe 1 .queued] [])) = some (.status, .demand .urgent) ∧
    ordered (cancel .online) = some (.segment 1 false true [], .bulk) ∧
    ordered (cancel .offline) = none ∧
    paced.tables.active.line.bulkPace = 4 ∧
    ordered paced = some (.segment 0 false false (List.replicate 32 0), .bulk) ∧
    ordered unpaced = some (.exchange, .schedule) ∧
    ordered spent = some (.exchange, .schedule) ∧ ordered credited = some (.status, .demand .normal) ∧
    ordered flying = some (.status, .demand .normal) ∧ ordered poll = some (.exchange, .schedule) ∧
    ordered probe = some (.status, .schedule) ∧ ordered retry = some (.exchange, .schedule) ∧
    (poll.stepTest ⟨.main, 5, 0⟩) = true ∧ failed.stepTest ⟨.main, 5, 0⟩ = false ∧
    ordered failed = some (.status, .schedule) ∧ ordered lapsed = some (.status, .schedule) ∧
    (held failed).scheduleWant = true ∧ (held failed).dropSchedule.scheduleWant = false ∧
    (held lapsed).scheduleWant = true ∧ (held lapsed).dropSchedule.scheduleWant = false ∧
    (net .online).scheduleWant = false ∧ (net .online).applicationDue = false ∧
    after .arbitration (net .online) = some (net .online) := by
  decide +kernel

theorem witness_TickAgesTheImages :
    (net .online).overdue = false ∧
    (after .timebaseTick (aged 65534)).map (fun t => (t.now, (t.image 5).age)) = some (1, 65535) ∧
    (after .timebaseTick (aged 65535)).map (fun t => (t.image 5).age) = some 65535 ∧
    (after .timebaseTick (net .online)).map (fun t => (t.image 5).age) = some 65535 := by decide +kernel

/-- The worked schedule of Section 1.8: a min-period wait with expiry 1200 holds through tick 1199, and no tick
passes at 1200 before its expiry; a silence timer may still expire one tick after its n ticks. -/
theorem test_minWait_expires_at_its_tick :
    let waiting (now : Nat) : State := { net .online with
      now := now, sched := { (net .online).sched with minWait := some 1200 } }
    let silent (now : Nat) : State := { net .online with
      now := now, link := { (net .online).link with silenceTimer := some 1200 } }
    (waiting 1199).overdue = false ∧ after .minPeriodWaitExpiry (waiting 1199) = none ∧
    (after .timebaseTick (waiting 1199)).map (·.now) = some 1200 ∧
    (waiting 1200).overdue = true ∧ after .timebaseTick (waiting 1200) = none ∧
    (after .minPeriodWaitExpiry (waiting 1200)).map (·.sched.minWait) = some none ∧
    (silent 1200).overdue = false ∧ (silent 1201).overdue = true := by decide +kernel

/-- With SAFE on, an EXCHANGE whose record is set begins without its output block. -/
theorem witness_SafeFramesCarryNoOutputs :
    let o : Order := ⟨.exchange, 5, .none, 1⟩
    let s : State := { safe (onLine (.gapWait o (some 0))) with
      images := bankSet base.images 5 ⟨false, [0, 0], 0, 0, 65535, true, [1, 2]⟩ }
    s.safeLaw = true ∧ s.line.phase.isSending = false ∧
    (after .gapTimerExpiry s).map (·.sched.safe) = some true ∧
    phaseAfter .gapTimerExpiry s = some (.sending o (downFrame 5 0x01 [0x01]) false) := by decide +kernel

/-- A state that is not the reset state, with a command that completes in it, for the laws of every step. -/
theorem witness_StepsKeepTheLaws :
    let s : State := { queued [entry .probe 1 .queued] [] with
      bulk := bulk5 .filling 31 .none
      pending := [.bulkData 1 [0, 31, 7, 8], .arbitration] }
    s.bulk.sound = true ∧ s.line.sound = true ∧ s.notices.sound = true ∧ s.queueSound = true ∧
    s.safeLaw = true ∧ s.passLock = true ∧ s.tables.sound = true ∧ s.recordsSound = true ∧
    s.txSettled = true ∧ s.decided = true ∧
    (match step s with
      | .next t => t.bulk.filled == 31 && t.link.replies.length == 1 && t.pending == [.arbitration]
      | _ => false) = true := by decide +kernel

end Sys2Proof.Tests
end

section
/-! PROOFS. The check pair, the frames it closes and the judgement of a reply by it (R22, R35). -/

namespace Sys2Proof.Machine

/-! ### The running sums -/

/-- One byte leaves both sums below the modulus, whatever they were before. -/
theorem checkStep_lt (p : Nat × Nat) (b : Byte) : (checkStep p b).1 < 255 ∧ (checkStep p b).2 < 255 :=
  ⟨Nat.mod_lt _ (by decide), Nat.mod_lt _ (by decide)⟩

/-- Sums that begin below the modulus stay below it. -/
theorem foldl_checkStep_lt (bytes : List Byte) (p : Nat × Nat) (hp : p.1 < 255 ∧ p.2 < 255) :
    (bytes.foldl checkStep p).1 < 255 ∧ (bytes.foldl checkStep p).2 < 255 := by
  induction bytes generalizing p with
  | nil => exact hp
  | cons b bytes ih => exact ih _ (checkStep_lt p b)

/-- A number below 255 is the value of its byte. -/
theorem natByte_toNat_of_lt {n : Nat} (h : n < 255) : (natByte n).toNat = n := by
  rw [natByte, BitVec.toNat_ofNat]
  omega

/-- The check bytes hold the running sums whole: nothing is lost in the narrowing to a byte. -/
theorem checkPair_toNat (bytes : List Byte) :
    ((checkPair bytes).1.toNat, (checkPair bytes).2.toNat) = bytes.foldl checkStep (0, 0) := by
  obtain ⟨hA, hB⟩ := foldl_checkStep_lt bytes (0, 0) (by decide)
  exact Prod.ext (natByte_toNat_of_lt hA) (natByte_toNat_of_lt hB)

/-- Both check bytes lie in 0 to 254. -/
theorem checkPair_le (bytes : List Byte) :
    (checkPair bytes).1.toNat ≤ 254 ∧ (checkPair bytes).2.toNat ≤ 254 := by
  have hsums := foldl_checkStep_lt bytes (0, 0) (by decide)
  rw [← checkPair_toNat] at hsums
  exact ⟨Nat.le_of_lt_succ hsums.1, Nat.le_of_lt_succ hsums.2⟩

/-- The recursion of the two sums: A takes the byte in, B takes the new A in. -/
theorem checkPair_append_singleton (bytes : List Byte) (b : Byte) :
    (checkPair (bytes ++ [b])).1.toNat = ((checkPair bytes).1.toNat + b.toNat) % 255 ∧
      (checkPair (bytes ++ [b])).2.toNat =
        ((checkPair bytes).2.toNat + (checkPair (bytes ++ [b])).1.toNat) % 255 := by
  have hstep : ((checkPair (bytes ++ [b])).1.toNat, (checkPair (bytes ++ [b])).2.toNat) =
      checkStep ((checkPair bytes).1.toNat, (checkPair bytes).2.toNat) b := by
    rw [checkPair_toNat, checkPair_toNat, List.foldl_concat]
  obtain ⟨hA, hB⟩ := Prod.mk.inj hstep
  exact ⟨hA, by rw [hB, hA]⟩

/-! ### The judgement of a reply -/

/-- What a reply whose check pair agrees is judged to be: steps 4 to 8 of R35. -/
def judgeChecked (cfg : NodeConfig) (o : Order) (addr kind : Byte) (payload : List Byte) : LineOutcome :=
  if addr.getLsbD 7 = false then .failure .malformed
  else if (addr &&& 0x1F).toNat ≠ o.addr then .failure .wrongSource
  else if kind = 0x8E then
    match payload with
    | [code] => .nodeError code
    | _ => .failure .malformed
  else
    match validContent cfg o.request kind payload with
    | some c => .replied c
    | none => .failure .malformed

/-- A complete reply is judged by its check bytes first, and by what it holds only when they are the pair. -/
theorem judgeReply_append_pair (cfg : NodeConfig) (o : Order) (addr kind len a b : Byte) (payload : List Byte) :
    judgeReply cfg o (addr :: kind :: len :: payload ++ [a, b]) =
      if (a, b) = checkPair (addr :: kind :: len :: payload) then judgeChecked cfg o addr kind payload
      else .failure .badCheck := by
  have hlen : (addr :: kind :: len :: payload ++ [a, b]).length - 2
      = (addr :: kind :: len :: payload).length := by simp
  have hpair : (a, b) = checkPair (addr :: kind :: len :: payload) ↔
      [a, b] = [(checkPair (addr :: kind :: len :: payload)).1,
        (checkPair (addr :: kind :: len :: payload)).2] := by
    simp [Prod.ext_iff]
  simp only [judgeReply, hlen, List.take_left, List.drop_left, hpair]
  exact ite_not _ _ _

/-- Once the pair agrees, no content is BAD_CHECK. -/
theorem judgeChecked_ne_badCheck (cfg : NodeConfig) (o : Order) (addr kind : Byte) (payload : List Byte) :
    judgeChecked cfg o addr kind payload ≠ .failure .badCheck := by
  unfold judgeChecked
  split_ifs
  · simp
  · simp
  · split <;> simp
  · split <;> simp

/-- A complete reply is BAD_CHECK exactly when its last two bytes are not the pair. -/
theorem judgeReply_eq_badCheck_iff (cfg : NodeConfig) (o : Order) (addr kind len a b : Byte)
    (payload : List Byte) :
    judgeReply cfg o (addr :: kind :: len :: payload ++ [a, b]) = .failure .badCheck ↔
      (a, b) ≠ checkPair (addr :: kind :: len :: payload) := by
  rw [judgeReply_append_pair]
  split_ifs with hpair
  · exact iff_of_false (judgeChecked_ne_badCheck cfg o addr kind payload) (not_not_intro hpair)
  · exact iff_of_true rfl hpair

end Sys2Proof.Machine

namespace Sys2Proof
open Machine

/-- Settles O38: the recursion and the range of the sums, then the verdict by the pair; both frames are laid out
so by definition. -/
theorem checkPairIsTheTwoSums : Obligations.CheckPairIsTheTwoSums := by
  refine ⟨rfl, checkPair_append_singleton, checkPair_le, fun _ _ _ => rfl, fun _ => rfl, ?verdict⟩
  case verdict =>
    intro cfg o addr kind len a b payload
    exact (judgeReply_eq_badCheck_iff cfg o addr kind len a b payload).trans
      (by rw [ne_eq, Prod.ext_iff, not_and_or])

end Sys2Proof
end

section
/-! PROOFS. Frames answered at once, QUERY_NODE, the quality of an image and its reading, and WRITE_OUTPUT (R58,
R66, R70, R73). -/

namespace Sys2Proof.Machine

/-! ### Frames answered at once -/

/-- No frame is accepted while RESET is asserted (R175). -/
theorem State.accepts_resetAsserted {s : State} {f : UpFrame} (h : s.accepts f = true) :
    s.resetAsserted = false := by
  simp only [State.accepts, State.dispatches, Bool.and_eq_true, Bool.not_eq_true'] at h
  obtain ⟨⟨⟨⟨⟨hreset, -⟩, -⟩, -⟩, -⟩, -⟩ := h
  exact hreset

/-- An owner may write the image store in the event of its answer: that makes nothing due, so the event ends with
the reply at the transmitter. -/
theorem State.takeFrame_answers_withImages {s : State} {f : UpFrame} {handle : State → Out} {r : Result}
    {content : List Byte} {images : Vector Image 30} (mnemonic : String) (haccepts : s.accepts f = true)
    (hsettled : s.txSettled = true) (hdecided : s.decided = true)
    (hhandle : handle s.heard = .next ((s.heard.withImages images).answer f r content)) :
    s.takeFrame mnemonic f handle = .next { s.answered f r content with images := images } := by
  have hreset := State.accepts_resetAsserted haccepts
  have hnotDue : (s.heard.withImages images).decided = true :=
    (State.decided_congr rfl rfl rfl rfl rfl).trans hdecided
  have hclose := State.close_answer_decided f r content hsettled hreset
    (u := s.heard.withImages images) rfl rfl hreset hnotDue
  rw [State.takeFrame_accepts mnemonic handle haccepts, hhandle]
  exact congrArg Host.Outcome.next hclose

/-- An owner that only answers changes nothing but what hearing and answering a frame changes. -/
theorem State.takeFrame_answers {s : State} {f : UpFrame} {handle : State → Out} {r : Result}
    {content : List Byte} (mnemonic : String) (haccepts : s.accepts f = true) (hsettled : s.txSettled = true)
    (hdecided : s.decided = true) (hhandle : handle s.heard = .next (s.heard.answer f r content)) :
    s.takeFrame mnemonic f handle = .next (s.answered f r content) :=
  State.takeFrame_answers_withImages (images := s.images) mnemonic haccepts hsettled hdecided hhandle

/-! ### The quality of an image and its reading (R66, R70) -/

section Quality
variable {s : State} {n : Nat}

theorem State.quality_of_invalid (hvalid : (s.image n).valid = false) : s.quality n = .none := by
  simp [State.quality, hvalid]

theorem State.quality_of_offline (hvalid : (s.image n).valid = true) (hoff : s.health n = .offline) :
    s.quality n = .lost := by
  simp [State.quality, hvalid, hoff]

theorem State.quality_of_old (hvalid : (s.image n).valid = true) (hon : s.health n ≠ .offline)
    (hold : (s.cfg n).staleLimit.toNat < (s.image n).age.toNat) : s.quality n = .stale := by
  simp [State.quality, hvalid, hon, hold]

theorem State.quality_of_fresh (hvalid : (s.image n).valid = true) (hon : s.health n ≠ .offline)
    (hfresh : (s.image n).age.toNat ≤ (s.cfg n).staleLimit.toNat) : s.quality n = .good := by
  simp [State.quality, hvalid, hon, Nat.not_lt.mpr hfresh]

/-- The rows below the first of R66 never give NONE. -/
theorem State.quality_eq_none_iff : s.quality n = .none ↔ (s.image n).valid = false := by
  refine ⟨fun hquality => ?_, State.quality_of_invalid⟩
  by_contra hvalid
  unfold State.quality at hquality
  rw [if_neg hvalid] at hquality
  split_ifs at hquality

/-- The data are in the reading exactly while the image is valid. -/
theorem State.reading_eq (s : State) (n : Nat) :
    s.reading n = (s.quality n).code :: (s.image n).age.extractLsb' 8 8 :: (s.image n).age.extractLsb' 0 8 ::
      (s.image n).sequence :: (s.image n).status :: (if (s.image n).valid then (s.image n).data else []) := by
  cases hvalid : (s.image n).valid <;> simp [State.reading, halfBytes, State.quality_eq_none_iff, hvalid]

end Quality

/-! ### WRITE_OUTPUT by the first row of R73 that holds -/

section Write
variable {s : State} {f : UpFrame}

theorem State.takeWrite_disabled (hhealth : s.health f.addr.toNat = .disabled) :
    s.takeWrite f = s.answer f .nodeDisabled [] := by
  simp [State.takeWrite, hhealth]

theorem State.takeWrite_offline (hhealth : s.health f.addr.toNat = .offline) :
    s.takeWrite f = s.answer f .nodeOffline [] := by
  simp [State.takeWrite, hhealth]

theorem State.takeWrite_no_outputs (hdis : s.health f.addr.toNat ≠ .disabled)
    (hoff : s.health f.addr.toNat ≠ .offline) (hlen : (s.cfg f.addr.toNat).outputLen = 0) :
    s.takeWrite f = s.answer f .badValue [] := by
  simp only [State.takeWrite, if_neg hdis, if_neg hoff, if_pos hlen]

theorem State.takeWrite_wrong_length (hdis : s.health f.addr.toNat ≠ .disabled)
    (hoff : s.health f.addr.toNat ≠ .offline) (hlen : (s.cfg f.addr.toNat).outputLen ≠ 0)
    (hbytes : f.payload.length ≠ (s.cfg f.addr.toNat).outputLen.toNat) :
    s.takeWrite f = s.answer f .badLength [] := by
  simp only [State.takeWrite, if_neg hdis, if_neg hoff, if_neg hlen, if_pos hbytes]

theorem State.takeWrite_taken (hdis : s.health f.addr.toNat ≠ .disabled)
    (hoff : s.health f.addr.toNat ≠ .offline) (hlen : (s.cfg f.addr.toNat).outputLen ≠ 0)
    (hbytes : f.payload.length = (s.cfg f.addr.toNat).outputLen.toNat) :
    s.takeWrite f =
      (s.writeOutput f.addr.toNat f.payload).answer f (if s.sched.safe then .held else .accepted) [] := by
  simp only [State.takeWrite, if_neg hdis, if_neg hoff, if_neg hlen, if_neg (not_not_intro hbytes)]

end Write

/-! ### The two commands as frames for their owners -/

/-- QUERY_NODE is answered with the node's record (R58). -/
theorem exec_queryNode (addr tag : Byte) (payload : List Byte) (s : State) :
    exec (.queryNode addr tag payload) s = s.takeFrame "QUERY_NODE" ⟨addr, 0x21, tag, payload⟩
      fun s1 => .next (s1.answer ⟨addr, 0x21, tag, payload⟩ .ok (s1.nodeRecord addr.toNat)) := rfl

/-- WRITE_OUTPUT is checked and written by the rows of R73. -/
theorem exec_writeOutput (addr tag : Byte) (payload : List Byte) (s : State) :
    exec (.writeOutput addr tag payload) s = s.takeFrame "WRITE_OUTPUT" ⟨addr, 0x11, tag, payload⟩
      fun s1 => .next (s1.takeWrite ⟨addr, 0x11, tag, payload⟩) := rfl

end Sys2Proof.Machine

namespace Sys2Proof
open Machine

/-- Settles O10: the query only answers, out of records that hearing its frame leaves; the quality by its rows. -/
theorem queryNodeAndQuality : Obligations.QueryNodeAndQuality := by
  refine ⟨?query, ?quality⟩
  case query =>
    intro s addr tag f n cfg r i haccepts hsettled hdecided
    rw [exec_queryNode]
    exact State.takeFrame_answers _ haccepts hsettled hdecided rfl
  case quality =>
    intro s n
    exact ⟨State.quality_of_invalid, State.quality_of_offline,
      fun hvalid hon => ⟨State.quality_of_old hvalid hon, State.quality_of_fresh hvalid hon⟩, s.reading_eq n⟩

/-- Settles O25: row by row of R73, with what hearing the frame leaves alone. -/
theorem writeOutputSetsTheRecord : Obligations.WriteOutputSetsTheRecord := by
  intro s addr tag payload f n c outLen haccepts hsettled hdecided
  have refuses {r : Result} (hrow : s.heard.takeWrite f = s.heard.answer f r []) :
      exec c s = .next (s.answered f r []) := by
    rw [exec_writeOutput]
    exact State.takeFrame_answers _ haccepts hsettled hdecided (congrArg Host.Outcome.next hrow)
  refine ⟨fun hdis => refuses (State.takeWrite_disabled hdis),
    fun hoff => refuses (State.takeWrite_offline hoff), fun hdis hoff => ⟨?none, ?wrong, ?taken⟩⟩
  case none => exact fun hlen => refuses (State.takeWrite_no_outputs hdis hoff hlen)
  case wrong => exact fun hlen hbytes => refuses (State.takeWrite_wrong_length hdis hoff hlen hbytes)
  case taken =>
    intro hlen hbytes
    have hrow := State.takeWrite_taken (s := s.heard) (f := f) hdis hoff hlen hbytes
    rw [exec_writeOutput]
    exact State.takeFrame_answers_withImages _ haccepts hsettled hdecided (congrArg Host.Outcome.next hrow)

end Sys2Proof
end

section
/-! PROOFS. One tag removed alone: CANCEL and the expiry of a deadline (R93, R94). -/

namespace Sys2Proof.Machine

/-! ### The entry that holds a tag, and the queue without it -/

theorem Entry.tagList_contains (e : Entry) (tag : Byte) :
    e.tagList.contains tag = e.tags.any fun t => t.tag == tag := by
  simp only [Entry.tagList, List.contains_eq_any_beq, List.any_map, Function.comp_def, BEq.comm]

theorem State.entryOf_eq_find (s : State) (tag : Byte) :
    s.entryOf tag = s.queue.entries.find? fun e => e.tags.any fun t => t.tag == tag := by
  simp only [State.entryOf, Entry.tagList_contains]

theorem State.entryOf_eq_none {s : State} {tag : Byte} (h : tag ∉ s.outstanding) : s.entryOf tag = none := by
  simpa [State.entryOf, State.outstanding, List.find?_eq_none] using h

/-- An entry with one tag taken off its list, which may then be empty. -/
def Entry.without (tag : Byte) (e : Entry) : Entry := { e with tags := e.tags.filter fun t => t.tag != tag }

/-- The entries with one tag taken off their lists, and those that are left with no tag gone (R93, R94). -/
def entriesWithout (tag : Byte) (l : List Entry) : List Entry :=
  (l.map (Entry.without tag)).filter fun e => !e.tags.isEmpty

theorem Entry.dropTag_eq_guard (tag : Byte) (e : Entry) :
    e.dropTag tag = Option.guard (fun e => !e.tags.isEmpty) (e.without tag) := by
  change (if (e.without tag).tags.isEmpty then none else some (e.without tag)) = _
  cases hempty : (e.without tag).tags.isEmpty with
  | true => simp [Option.guard, hempty]
  | false => simp [Option.guard, hempty]

theorem filterMap_dropTag (tag : Byte) (l : List Entry) :
    l.filterMap (Entry.dropTag tag) = entriesWithout tag l := by
  rw [entriesWithout, ← List.filterMap_eq_filter, List.filterMap_map]
  exact List.filterMap_congr fun e _ => e.dropTag_eq_guard tag

theorem ReqQueue.dropTag_eq (q : ReqQueue) (tag : Byte) :
    q.dropTag tag = ⟨entriesWithout tag q.urgent, entriesWithout tag q.normal⟩ := by
  rw [ReqQueue.dropTag, filterMap_dropTag, filterMap_dropTag]

/-! ### An IDLE transmitter takes the reply -/

/-- A settled IDLE transmitter has no notice to take. -/
theorem State.noticeTakable_of_idle {s : State} (hsettled : s.txSettled = true)
    (hreset : s.resetAsserted = false) (hidle : s.link.tx = .idle) : s.noticeTakable = false := by
  simp only [State.txSettled, hidle, hreset, bne_self_eq_false, Bool.or_self, Bool.false_or,
    Bool.and_eq_true, Bool.not_eq_true'] at hsettled
  obtain ⟨⟨hnotice, -⟩, -⟩ := hsettled
  exact hnotice

/-- A settled transmitter that an event hands replies and no notice takes the oldest reply: case 2 of R171. -/
theorem State.wake_replies {s u : State} (hsettled : s.txSettled = true) (hreset : s.resetAsserted = false)
    (hureset : u.resetAsserted = false) (htx : u.link.tx = s.link.tx)
    (hpending : u.link.restartPending = s.link.restartPending) (hnotices : u.notices = s.notices)
    (hreplies : u.link.replies ≠ []) :
    u.wake = u.withLink { u.link with
      tx := if s.link.tx = .idle then .sendingReply else s.link.tx
      replyRun := if s.link.tx = .idle then min 4 (u.link.replyRun + 1) else u.link.replyRun } := by
  rw [← htx]
  by_cases hidle : u.link.tx = .idle
  · have hnotice : u.noticeTakable = false := by
      rw [State.noticeTakable, hnotices, hpending]
      exact State.noticeTakable_of_idle hsettled hreset (htx ▸ hidle)
    simp [State.wake, State.txNext, State.takeReply, hidle, hureset, hreplies, hnotice]
  · rw [State.wake_sending hidle]
    simp only [if_neg hidle]
    rfl

/-! ### CANCEL by its cases -/

/-- CANCEL as a frame for its owner. -/
theorem exec_cancel (tag : Byte) (payload : List Byte) (s : State) :
    exec (.cancel tag payload) s = s.takeFrame "CANCEL" ⟨0, 0x46, tag, payload⟩
      fun s1 => .next (s1.takeCancel ⟨0, 0x46, tag, payload⟩) := rfl

section Cancel
variable {s : State} {f : UpFrame} {e : Entry}

theorem State.takeCancel_unknown (hentry : s.entryOf (f.payload.headD 0) = none) :
    s.takeCancel f = s.answer f .unknownTag [] := by
  simp only [State.takeCancel, hentry]

theorem State.takeCancel_inFlight (hentry : s.entryOf (f.payload.headD 0) = some e)
    (hphase : e.phase ≠ .queued) : s.takeCancel f = s.answer f .notCancellable [] := by
  simp only [State.takeCancel, hentry, if_neg hphase]

theorem State.takeCancel_queued (hentry : s.entryOf (f.payload.headD 0) = some e)
    (hphase : e.phase = .queued) :
    s.takeCancel f = (s.removeTag e (f.payload.headD 0) .cancelled).answer f .ok [] := by
  simp only [State.takeCancel, hentry, if_pos hphase]

end Cancel

/-! ### The expiry of a deadline -/

/-- The expiry of a deadline that is due on a queued tag (R93). -/
theorem exec_deadlineExpiry_due {s : State} {tag : Byte} {e : Entry} {x : TagSlot} {t : Nat}
    (hentry : s.entryOf tag = some e) (hphase : e.phase = .queued) (hmem : x ∈ e.tags) (htag : x.tag = tag)
    (hexpiry : x.expiry = some t) (hdue : t ≤ s.now) :
    exec (.deadlineExpiry tag) s = .next (s.removeTag e tag .expired).close := by
  have hany : (e.tags.any fun y => y.tag == tag && s.dueOpt y.expiry) = true :=
    List.any_eq_true.mpr ⟨x, hmem, by simp [htag, hexpiry, State.dueOpt, State.due, hdue]⟩
  change execDeadlineExpiry tag s = _
  simp only [execDeadlineExpiry, hentry, hphase, hany, done]
  rfl

end Sys2Proof.Machine

namespace Sys2Proof
open Machine

/-- Settles O28: the removal leaves the other tags as they were, an IDLE transmitter had no notice to take, so it
takes the reply, and the event ends with what the removal makes due. -/
theorem cancelAndDeadlineRemoveOneTag : Obligations.CancelAndDeadlineRemoveOneTag := by
  refine ⟨?cancel, ?deadline⟩
  case cancel =>
    intro s tag target f c drop haccepts hsettled hdecided
    have hreset := State.accepts_resetAsserted haccepts
    refine ⟨fun hunknown => ?unknown, fun e hfind => ?held⟩
    case unknown =>
      have hentry : s.heard.entryOf target = none := State.entryOf_eq_none hunknown
      rw [exec_cancel]
      exact State.takeFrame_answers _ haccepts hsettled hdecided
        (congrArg Host.Outcome.next (State.takeCancel_unknown hentry))
    case held =>
      have hentry : s.heard.entryOf target = some e := (State.entryOf_eq_find ..).trans hfind
      refine ⟨fun hphase => ?inFlight, fun hphase => ?queued⟩
      case inFlight =>
        rw [exec_cancel]
        exact State.takeFrame_answers _ haccepts hsettled hdecided
          (congrArg Host.Outcome.next (State.takeCancel_inFlight hentry hphase))
      case queued =>
        have hwake := State.wake_replies
          (u := (s.heard.removeTag e target .cancelled).answer ⟨0, 0x46, tag, [target]⟩ .ok [])
          hsettled hreset hreset rfl rfl rfl (by simp)
        rw [exec_cancel, State.takeFrame_accepts _ _ haccepts, State.takeCancel_queued hentry hphase]
        refine congrArg (fun u : State => Host.Outcome.next u.follow) (hwake.trans ?_)
        simp only [State.removeTag, ReqQueue.dropTag_eq, State.answer, State.reply, State.queueReply_link,
          State.withQueue_link, List.append_assoc]
        rfl
  case deadline =>
    intro s tag e drop hreset hsettled hfind hphase ⟨x, t, hmem, htag, hexpiry, hdue⟩
    have hentry := (State.entryOf_eq_find s tag).trans hfind
    have hwake := State.wake_replies (u := s.removeTag e tag .expired) hsettled hreset hreset rfl rfl rfl
      (by simp [State.removeTag])
    rw [exec_deadlineExpiry_due hentry hphase hmem htag hexpiry hdue, State.close, hwake]
    simp only [State.removeTag, ReqQueue.dropTag_eq]
    rfl

end Sys2Proof
end

section
/-! PROOFS. The bulk commands but BULK_ABORT, and the backoff's expiry (R102 to R104, R109, R111, R112, R118). -/

namespace Sys2Proof.Machine

/-! ### Frames whose owner replaces the transfer record -/

/-- An owner that replaces the transfer record and answers: the reply is at the transmitter before what the new
record makes due is taken. -/
theorem State.takeFrame_answers_withBulk {s : State} {f : UpFrame} {handle : State → Out} {r : Result}
    {content : List Byte} {b : Bulk} (mnemonic : String) (haccepts : s.accepts f = true)
    (hsettled : s.txSettled = true)
    (hhandle : handle s.heard = .next ((s.heard.withBulk b).answer f r content)) :
    s.takeFrame mnemonic f handle = .next ({ s.answered f r content with bulk := b } : State).follow := by
  have hreset := State.accepts_resetAsserted haccepts
  have hclose := State.close_answer f r content hsettled hreset (u := s.heard.withBulk b) rfl rfl hreset
  rw [State.takeFrame_accepts mnemonic handle haccepts, hhandle]
  exact congrArg Host.Outcome.next hclose

/-- With nothing due in the new record, the event ends with the reply at the transmitter. -/
theorem State.takeFrame_answers_withBulk_decided {s : State} {f : UpFrame} {handle : State → Out} {r : Result}
    {content : List Byte} {b : Bulk} (mnemonic : String) (haccepts : s.accepts f = true)
    (hsettled : s.txSettled = true) (hnotDue : (s.withBulk b).decided = true)
    (hhandle : handle s.heard = .next ((s.heard.withBulk b).answer f r content)) :
    s.takeFrame mnemonic f handle = .next { s.answered f r content with bulk := b } := by
  have hdecided : ({ s.answered f r content with bulk := b } : State).decided = true :=
    (State.decided_congr rfl rfl rfl rfl rfl).trans hnotDue
  rw [State.takeFrame_answers_withBulk mnemonic haccepts hsettled hhandle, State.follow_of_decided hdecided]
  exact congrArg Host.Outcome.next (State.wake_sending (s.answered_busy f r content))

/-- A record that presents no segment, and a cancel only where one was presented before, makes nothing due. -/
theorem State.withBulk_decided {s : State} {b : Bulk} (hdecided : s.decided = true)
    (hcancel : (s.withBulk b).cancelWant = s.cancelWant) (hsegment : (s.withBulk b).segmentWant = false) :
    (s.withBulk b).decided = true := by
  have hhead (c : QueueClass) : (s.withBulk b).headWant c = s.headWant c := rfl
  have hschedule : (s.withBulk b).scheduleWant = s.scheduleWant := rfl
  have hwant : (s.withBulk b).anyWant = true → s.anyWant = true := by
    simp only [State.anyWant, hcancel, hsegment, hhead, hschedule, State.withBulk_sched, Bool.or_eq_true]
    tauto
  obtain ⟨harbitration, happlication⟩ := s.decided_iff.mp hdecided
  refine (State.decided_iff _).mpr ⟨?_, happlication⟩
  simp only [State.arbitrationDue, State.withBulk_line, Bool.and_eq_false_iff] at harbitration ⊢
  refine harbitration.imp_right fun hnone => ?_
  rw [Bool.eq_false_iff] at hnone ⊢
  exact mt hwant hnone

/-- A transfer that is not RUNNING presents no segment (R106). -/
theorem State.segmentWant_of_not_running {s : State} (hstate : s.bulk.state ≠ .running) :
    s.segmentWant = false := by
  simp [State.segmentWant, hstate]

/-- A frame that the dispatch refuses is answered with the refusal, and a free choice is counted (R169). -/
theorem State.takeFrame_dispatch_refuses {s : State} {f : UpFrame} {r : Result} (mnemonic : String)
    (handle : State → Out) (hdispatches : s.dispatches f = true) (hsettled : s.txSettled = true)
    (hdecided : s.decided = true)
    (hrefusal : dispatchRefusal (Config.badValueFirst s.choices) f.addr f.cmd f.payload = some r) :
    s.takeFrame mnemonic f handle = .next { s.answered f r [] with choices := s.choices + 1 } := by
  simp only [State.dispatches, Bool.and_eq_true, Bool.not_eq_true', bne_iff_ne, ne_eq,
    Option.isNone_iff_eq_none] at hdispatches
  obtain ⟨⟨⟨hreset, hfits⟩, hpending⟩, hslots⟩ := hdispatches
  have hkept : (s.frameCounted.link.restartPending.isSome || s.frameCounted.freeSlots == 0) = false := by
    change (s.link.restartPending.isSome || s.freeSlots == 0) = false
    simp [hpending, hslots]
  have htaken : s.takeFrame mnemonic f handle = done (s.heard.countChoice.answer f r []) := by
    have hrefusal' : dispatchRefusal (Config.badValueFirst s.frameCounted.choices) f.addr f.cmd f.payload
        = some r := hrefusal
    simp only [State.takeFrame, hreset, hfits, hkept, hrefusal']
    rfl
  have hnotDue : s.heard.countChoice.decided = true :=
    (State.decided_congr rfl rfl rfl rfl rfl).trans hdecided
  have hclose := State.close_answer_decided f r [] hsettled hreset (u := s.heard.countChoice) rfl rfl hreset
    hnotDue
  rw [htaken]
  exact congrArg Host.Outcome.next hclose

/-! ### The bulk commands as frames for their owner -/

theorem exec_bulkOpen (tag node hi lo : Byte) (s : State) :
    exec (.bulkOpen tag [node, hi, lo]) s = s.takeFrame "BULK_OPEN" ⟨0, 0x50, tag, [node, hi, lo]⟩
      fun s1 => .next (s1.takeOpen ⟨0, 0x50, tag, [node, hi, lo]⟩ node.toNat (half hi lo).toNat) := rfl

theorem exec_bulkData (tag hi lo : Byte) (data : List Byte) (s : State) :
    exec (.bulkData tag (hi :: lo :: data)) s = s.takeFrame "BULK_DATA" ⟨0, 0x51, tag, hi :: lo :: data⟩
      fun s1 => s1.takeData ⟨0, 0x51, tag, hi :: lo :: data⟩ (half hi lo).toNat data := rfl

theorem exec_bulkStart (tag : Byte) (payload : List Byte) (s : State) :
    exec (.bulkStart tag payload) s = s.takeFrame "BULK_START" ⟨0, 0x52, tag, payload⟩
      fun s1 => .next (s1.takeBulkStart ⟨0, 0x52, tag, payload⟩) := rfl

theorem exec_bulkSuspend (tag : Byte) (payload : List Byte) (s : State) :
    exec (.bulkSuspend tag payload) s = s.takeFrame "BULK_SUSPEND" ⟨0, 0x53, tag, payload⟩
      fun s1 => .next (s1.takeBulkSuspend ⟨0, 0x53, tag, payload⟩) := rfl

theorem exec_bulkResume (tag : Byte) (payload : List Byte) (s : State) :
    exec (.bulkResume tag payload) s = s.takeFrame "BULK_RESUME" ⟨0, 0x54, tag, payload⟩
      fun s1 => .next (s1.takeBulkResume ⟨0, 0x54, tag, payload⟩) := rfl

theorem exec_bulkStatus (tag : Byte) (payload : List Byte) (s : State) :
    exec (.bulkStatus tag payload) s = s.takeFrame "BULK_STATUS" ⟨0, 0x56, tag, payload⟩
      fun s1 => .next (s1.answer ⟨0, 0x56, tag, payload⟩ .ok s1.bulk.bytes) := rfl

theorem exec_bulkClear (tag : Byte) (payload : List Byte) (s : State) :
    exec (.bulkClear tag payload) s = s.takeFrame "BULK_CLEAR" ⟨0, 0x57, tag, payload⟩
      fun s1 => .next (s1.takeClear ⟨0, 0x57, tag, payload⟩) := rfl

/-! ### The record opened, returned and cleared (R102, R118) -/

theorem SegPhase.keepDetached_eq (p : SegPhase) :
    p.keepDetached = if p = .detached then .detached else .none := by
  cases p <;> rfl

/-- The suspend cause, the outcome and the failure reason by the state that has them, each absent one as 0. -/
theorem BulkState.cause_outcome_bytes (st : BulkState) :
    st.causeCode :: st.outcomeBytes = match st with
      | .suspended .user => [1, 0, 0]
      | .suspended .safe => [2, 0, 0]
      | .ended .done => [0, 1, 0]
      | .ended (.failed r) => [0, 2, r.code]
      | .ended .aborted => [0, 3, 0]
      | _ => [0, 0, 0] := by
  cases st with
  | suspended cause => cases cause <;> rfl
  | ended outcome => cases outcome <;> rfl
  | _ => rfl

/-- The record of BULK_STATUS with the bytes of the transfer's state together (Table 11-4). -/
theorem Bulk.bytes_eq (b : Bulk) :
    b.bytes = [b.state.code, natByte (b.node.getD 0)] ++ natHalf (b.declared.getD 0) ++ natHalf b.filled
      ++ [natByte b.segCount, natByte b.nextIndex, natByte b.acked, natByte b.attempts, natByte b.busy,
          b.segPhase.code]
      ++ (b.state.causeCode :: b.state.outcomeBytes) ++ [flagByte b.cancel.isSome] := by
  simp [Bulk.bytes]

section Record
variable {s : State} {f : UpFrame}

theorem State.takeOpen_active {node length : Nat} (hactive : s.bulk.state.active = true) :
    s.takeOpen f node length = s.answer f .bulkActive [] := by
  simp [State.takeOpen, hactive]

theorem State.takeOpen_disabled {node length : Nat} (hactive : s.bulk.state.active = false)
    (hhealth : s.health node = .disabled) : s.takeOpen f node length = s.answer f .nodeDisabled [] := by
  simp [State.takeOpen, hactive, hhealth]

theorem State.takeOpen_taken {node length : Nat} (hactive : s.bulk.state.active = false)
    (hhealth : s.health node ≠ .disabled) :
    s.takeOpen f node length = (s.withBulk (s.bulk.opened node length)).answer f .ok [] := by
  simp [State.takeOpen, hactive, hhealth]

theorem State.takeClear_cleared (hstate : s.bulk.state = .filling ∨ ∃ o, s.bulk.state = .ended o) :
    s.takeClear f = (s.withBulk s.bulk.cleared).answer f .ok [] := by
  rcases hstate with hfilling | ⟨o, hended⟩
  · simp only [State.takeClear, hfilling]
  · simp only [State.takeClear, hended]

theorem State.takeClear_refused (hfilling : s.bulk.state ≠ .filling) (hended : ∀ o, s.bulk.state ≠ .ended o) :
    s.takeClear f = s.answer f .wrongState [] := by
  unfold State.takeClear
  split
  case h_1 hstate => exact absurd hstate hfilling
  case h_2 o hstate => exact absurd hstate (hended o)
  case h_3 => rfl

end Record

/-! ### Data for the buffer by the rows of R103 -/

section Data
variable {b : Bulk} {s : State} {f : UpFrame} {offset count n : Nat} {data : List Byte}

theorem State.takeData_refused {r : Result}
    (hrefusal : s.bulk.dataRefusal offset data.length = some r) :
    s.takeData f offset data = .next (s.answer f r []) := by
  simp only [State.takeData, hrefusal]

theorem State.takeData_written
    (hrefusal : s.bulk.dataRefusal offset data.length = none) (hfits : offset + data.length ≤ bufferSize) :
    s.takeData f offset data = .next ((s.withBulk (s.bulk.filledWith offset data)).answer f .ok []) := by
  simp only [State.takeData, hrefusal, if_neg (Nat.not_lt.mpr hfits)]

theorem Bulk.dataRefusal_not_filling (hstate : b.state ≠ .filling) :
    b.dataRefusal offset count = some .wrongState := by
  simp only [Bulk.dataRefusal, if_pos hstate]

theorem Bulk.dataRefusal_offset (hstate : b.state = .filling) (hoffset : offset ≠ b.filled) :
    b.dataRefusal offset count = some .outOfOrder := by
  simp only [Bulk.dataRefusal, if_neg (not_not_intro hstate), if_pos hoffset]

theorem Bulk.dataRefusal_in_order (hstate : b.state = .filling) (hoffset : offset = b.filled)
    (hdeclared : b.declared = some n) :
    b.dataRefusal offset count = if n < b.filled + count then some .badLength else none := by
  simp only [Bulk.dataRefusal, if_neg (not_not_intro hstate), if_neg (not_not_intro hoffset), hdeclared,
    Option.getD_some]

/-- A sound record's buffer is canonical, and its declared length is within the buffer (R100). -/
theorem Bulk.sound_declared (hsound : b.sound = true) (hdeclared : b.declared = some n) :
    b.buffer.wf = true ∧ n ≤ bufferSize := by
  simp only [Bulk.sound, hdeclared, Bool.and_eq_true, decide_eq_true_eq] at hsound
  obtain ⟨hwf, -, hn⟩ := hsound
  exact ⟨hwf, hn⟩

/-- A byte count outside 1 to 240 is the wrong payload size, which the link port refuses (R169 step 4). -/
theorem dispatchRefusal_bulkData_count (first : Bool) (hi lo : Byte)
    (hcount : data.length < 1 ∨ 240 < data.length) :
    dispatchRefusal first 0 0x51 (hi :: lo :: data) = some .badLength := by
  have haddress : addressRefusal 0 0x51 = none := by decide
  have hcommand : Command.ofCode 0x51 = some .bulkData := by decide
  have hsize : Command.bulkData.sizeOk (hi :: lo :: data) = false := by
    simp only [Command.sizeOk, List.length_cons, Bool.and_eq_false_iff, decide_eq_false_iff_not]
    omega
  simp only [dispatchRefusal, haddress, payloadRefusal, hcommand, hsize]
  rfl

end Data

/-! ### The transfer started by the rows of R104 -/

section Start
variable {s : State} {f : UpFrame} {n declared : Nat}

theorem State.takeBulkStart_refused {r : Result} (hrefusal : s.startRefusal = some r) :
    s.takeBulkStart f = s.answer f r [] := by
  simp only [State.takeBulkStart, hrefusal]

theorem State.takeBulkStart_started (hrefusal : s.startRefusal = none) :
    s.takeBulkStart f = (s.withBulk s.bulk.started).answer f .accepted [] := by
  simp only [State.takeBulkStart, hrefusal]

theorem State.startRefusal_not_filling (hstate : s.bulk.state ≠ .filling) :
    s.startRefusal = some .wrongState := by
  simp only [State.startRefusal, if_pos hstate]

theorem State.startRefusal_incomplete (hstate : s.bulk.state = .filling)
    (hdeclared : s.bulk.declared = some declared) (hfilled : s.bulk.filled < declared) :
    s.startRefusal = some .incomplete := by
  simp [State.startRefusal, hstate, hdeclared, hfilled]

/-- The rows of R104 below the second, for a transfer whose buffer is filled. -/
theorem State.startRefusal_filled (hstate : s.bulk.state = .filling) (hnode : s.bulk.node = some n)
    (hdeclared : s.bulk.declared = some declared) (hfilled : declared ≤ s.bulk.filled) :
    s.startRefusal =
      if s.health n = .disabled then some .nodeDisabled
      else if s.health n = .offline then some .nodeOffline
      else if s.passHeldFor n then some .nodeBusy
      else if s.sched.safe then some .safeState
      else none := by
  simp [State.startRefusal, hstate, hnode, hdeclared, Nat.not_lt.mpr hfilled]

theorem State.passHeldFor_iff :
    s.passHeldFor n = true ↔ ∃ e ∈ s.queue.entries, e.kind.isPass = true ∧ e.node = n := by
  simp [State.passHeldFor]

end Start

/-! ### Suspend and resume (R111, R112) -/

section Suspend
variable {s : State} {f : UpFrame}

theorem State.takeBulkSuspend_suspended (hstate : s.bulk.state = .running ∨ ∃ t, s.bulk.state = .waiting t) :
    s.takeBulkSuspend f = (s.withBulk { s.bulk with state := .suspended .user }).answer f .ok [] := by
  rcases hstate with hrunning | ⟨t, hwaiting⟩
  · simp only [State.takeBulkSuspend, hrunning]
  · simp only [State.takeBulkSuspend, hwaiting]

theorem State.takeBulkSuspend_refused (hrunning : s.bulk.state ≠ .running)
    (hwaiting : ∀ t, s.bulk.state ≠ .waiting t) : s.takeBulkSuspend f = s.answer f .wrongState [] := by
  unfold State.takeBulkSuspend
  split
  case h_1 hstate => exact absurd hstate hrunning
  case h_2 t hstate => exact absurd hstate (hwaiting t)
  case h_3 => rfl

theorem State.takeBulkResume_not_suspended (hstate : ∀ cause, s.bulk.state ≠ .suspended cause) :
    s.takeBulkResume f = s.answer f .wrongState [] := by
  unfold State.takeBulkResume
  split
  case h_1 cause hsuspended => exact absurd hsuspended (hstate cause)
  case h_2 => rfl

theorem State.takeBulkResume_safe {cause : SuspendCause} (hstate : s.bulk.state = .suspended cause)
    (hsafe : s.sched.safe = true) : s.takeBulkResume f = s.answer f .safeState [] := by
  simp only [State.takeBulkResume, hstate, hsafe, if_true]

theorem State.takeBulkResume_resumed {cause : SuspendCause} (hstate : s.bulk.state = .suspended cause)
    (hsafe : s.sched.safe = false) :
    s.takeBulkResume f = (s.withBulk { s.bulk with state := .running }).answer f .ok [] := by
  simp only [State.takeBulkResume, hstate, hsafe, Bool.false_eq_true, if_false]

end Suspend

/-! ### The backoff (R109) -/

theorem exec_backoffExpiry_due {s : State} {t : Nat} (hstate : s.bulk.state = .waiting t) (hdue : t ≤ s.now) :
    exec .backoffExpiry s = .next (s.withBulk { s.bulk with state := .running }).close := by
  change execBackoffExpiry s = _
  simp [execBackoffExpiry, hstate, State.due, hdue, done]

end Sys2Proof.Machine

namespace Sys2Proof
open Machine

/-- Settles O29: a new or a cleared record is the reset one but for what R102 and R118 keep or set. -/
theorem bulkOpenStatusAndClear : Obligations.BulkOpenStatusAndClear := by
  refine ⟨?openRecord, ?statusAndClear⟩
  case openRecord =>
    intro s tag node hi lo f c length haccepts hsettled hdecided
    have refuses {r : Result}
        (hrow : s.heard.takeOpen f node.toNat length = s.heard.answer f r []) :
        exec c s = .next (s.answered f r []) := by
      rw [exec_bulkOpen]
      exact State.takeFrame_answers _ haccepts hsettled hdecided (congrArg Host.Outcome.next hrow)
    refine ⟨fun hactive => refuses (State.takeOpen_active hactive),
      fun hactive hhealth => refuses (State.takeOpen_disabled hactive hhealth), fun hactive hhealth => ?_⟩
    have hrow := State.takeOpen_taken (s := s.heard) (f := f) (length := length) hactive hhealth
    rw [exec_bulkOpen, ← SegPhase.keepDetached_eq]
    exact State.takeFrame_answers_withBulk _ haccepts hsettled (congrArg Host.Outcome.next hrow)
  case statusAndClear =>
    intro s tag f g b hsettled hdecided
    refine ⟨fun haccepts => ?status, fun haccepts => ⟨fun hstate => ?cleared, fun hfilling hended => ?refused⟩⟩
    case status =>
      have hbytes := b.bytes_eq
      rw [BulkState.cause_outcome_bytes] at hbytes
      rw [exec_bulkStatus]
      exact (State.takeFrame_answers _ haccepts hsettled hdecided rfl).trans
        (congrArg (fun content => Host.Outcome.next (s.answered f .ok content)) hbytes)
    case cleared =>
      have hrow := State.takeClear_cleared (s := s.heard) (f := g) hstate
      rw [exec_bulkClear, ← SegPhase.keepDetached_eq]
      exact State.takeFrame_answers_withBulk _ haccepts hsettled (congrArg Host.Outcome.next hrow)
    case refused =>
      have hrow := State.takeClear_refused (s := s.heard) (f := g) hfilling hended
      rw [exec_bulkClear]
      exact State.takeFrame_answers _ haccepts hsettled hdecided (congrArg Host.Outcome.next hrow)

/-- Settles O30: in a sound record data within the declared length is within the buffer, so it is written. -/
theorem bulkDataFillsTheBuffer : Obligations.BulkDataFillsTheBuffer := by
  intro s tag hi lo data f c offset hsound hsettled hdecided
  refine ⟨fun hdispatches _ hcount => ?count, fun haccepts => ?owner⟩
  case count =>
    rw [exec_bulkData]
    exact State.takeFrame_dispatch_refuses _ _ hdispatches hsettled hdecided
      (dispatchRefusal_bulkData_count _ hi lo hcount)
  case owner =>
    have refuses {r : Result} (hrefusal : s.bulk.dataRefusal offset data.length = some r) :
        exec c s = .next (s.answered f r []) := by
      rw [exec_bulkData]
      exact State.takeFrame_answers _ haccepts hsettled hdecided
        (State.takeData_refused (s := s.heard) hrefusal)
    refine ⟨fun hstate => refuses (Bulk.dataRefusal_not_filling hstate),
      fun hstate hoffset => refuses (Bulk.dataRefusal_offset hstate hoffset),
      fun n hstate hoffset hdeclared => ?_⟩
    have hrow := Bulk.dataRefusal_in_order (count := data.length) hstate hoffset hdeclared
    refine ⟨fun hlong => refuses (hrow.trans (if_pos hlong)), fun hshort => ?_⟩
    obtain ⟨hwf, hn⟩ := Bulk.sound_declared hsound hdeclared
    have hfits : offset + data.length ≤ bufferSize := hoffset ▸ hshort.trans hn
    have hnotDue : (s.withBulk (s.bulk.filledWith offset data)).decided = true :=
      State.withBulk_decided hdecided rfl
        (State.segmentWant_of_not_running fun hrunning => by cases hstate.symm.trans hrunning)
    refine ⟨s.bulk.buffer.writeRun offset data, ?_, Memory.read_writeRun data hwf hfits⟩
    rw [exec_bulkData]
    exact State.takeFrame_answers_withBulk_decided _ haccepts hsettled hnotDue
      (State.takeData_written (s := s.heard) (hrow.trans (if_neg (Nat.not_lt.mpr hshort))) hfits)

/-- Settles O31: row by row of R104, with what hearing the frame leaves alone. -/
theorem bulkStartRunsTheTransfer : Obligations.BulkStartRunsTheTransfer := by
  intro s tag n declared f c held haccepts hsettled hdecided
  have refuses {r : Result} (hrefusal : s.startRefusal = some r) : exec c s = .next (s.answered f r []) := by
    rw [exec_bulkStart]
    exact State.takeFrame_answers _ haccepts hsettled hdecided
      (congrArg Host.Outcome.next (State.takeBulkStart_refused (s := s.heard) hrefusal))
  refine ⟨fun hstate => refuses (State.startRefusal_not_filling hstate), fun hstate hnode hdeclared =>
    ⟨fun hfilled => refuses (State.startRefusal_incomplete hstate hdeclared hfilled), fun hfilled => ?_⟩⟩
  have hrows := State.startRefusal_filled hstate hnode hdeclared hfilled
  refine ⟨fun hdis => refuses (by simp [hrows, hdis]), fun hoff => refuses (by simp [hrows, hoff]),
    fun hdis hoff => ⟨fun hheld => ?busy, fun hheld hsafe => ?safe, fun hheld hsafe => ?started⟩⟩
  case busy =>
    have hpass : s.passHeldFor n = true := State.passHeldFor_iff.mpr hheld
    exact refuses (by simp [hrows, hdis, hoff, hpass])
  case safe =>
    have hpass : ¬ s.passHeldFor n = true := mt State.passHeldFor_iff.mp hheld
    exact refuses (by simp [hrows, hdis, hoff, hpass, hsafe])
  case started =>
    have hpass : ¬ s.passHeldFor n = true := mt State.passHeldFor_iff.mp hheld
    have hrefusal : s.startRefusal = none := by simp [hrows, hdis, hoff, hpass, hsafe]
    rw [exec_bulkStart]
    exact State.takeFrame_answers_withBulk _ haccepts hsettled
      (congrArg Host.Outcome.next (State.takeBulkStart_started (s := s.heard) hrefusal))

/-- Settles O32: a suspended transfer makes nothing due, and a running one what R121 takes in the event. -/
theorem bulkSuspendResumeAndBackoff : Obligations.BulkSuspendResumeAndBackoff := by
  refine ⟨?commands, fun s t hstate hdue => exec_backoffExpiry_due hstate hdue⟩
  case commands =>
    intro s tag f g hsettled hdecided
    refine ⟨fun haccepts => ⟨fun hstate => ?suspended, fun hrunning hwaiting => ?notActive⟩,
      fun haccepts => ⟨fun hstate => ?notSuspended,
        fun cause hstate => ⟨fun hsafe => ?safe, fun hsafe => ?resumed⟩⟩⟩
    case suspended =>
      have hrow := State.takeBulkSuspend_suspended (s := s.heard) (f := f) hstate
      have hnotDue : (s.withBulk { s.bulk with state := .suspended .user }).decided = true :=
        State.withBulk_decided hdecided rfl (State.segmentWant_of_not_running (by simp))
      rw [exec_bulkSuspend]
      exact State.takeFrame_answers_withBulk_decided _ haccepts hsettled hnotDue
        (congrArg Host.Outcome.next hrow)
    case notActive =>
      have hrow := State.takeBulkSuspend_refused (s := s.heard) (f := f) hrunning hwaiting
      rw [exec_bulkSuspend]
      exact State.takeFrame_answers _ haccepts hsettled hdecided (congrArg Host.Outcome.next hrow)
    case notSuspended =>
      have hrow := State.takeBulkResume_not_suspended (s := s.heard) (f := g) hstate
      rw [exec_bulkResume]
      exact State.takeFrame_answers _ haccepts hsettled hdecided (congrArg Host.Outcome.next hrow)
    case safe =>
      have hrow := State.takeBulkResume_safe (s := s.heard) (f := g) hstate hsafe
      rw [exec_bulkResume]
      exact State.takeFrame_answers _ haccepts hsettled hdecided (congrArg Host.Outcome.next hrow)
    case resumed =>
      have hrow := State.takeBulkResume_resumed (s := s.heard) (f := g) hstate hsafe
      rw [exec_bulkResume]
      exact State.takeFrame_answers_withBulk _ haccepts hsettled (congrArg Host.Outcome.next hrow)

end Sys2Proof
end

section
/-! PROOFS. What stands still while SAFE is on, and the rules of the shared operations for it (R75, R96, R113,
R136). -/

namespace Sys2Proof.Machine

/-! ### What stands still while SAFE is on -/

/-- A frame of this request cannot move an output, but for an EXCHANGE's output block (R23, R136). -/
def Request.allowedInSafe : Request → Bool
  | .pass _ => false
  | .segment _ _ cancel _ => cancel
  | .exchange | .status | .safe => true

/-- The line controller holds no order that may move an output, and sends no frame that does: an EXCHANGE frame
has its NO_OUTPUT flag and no output block (R136). -/
def LinePhase.AllowedInSafe : LinePhase → Prop
  | .gapWait o _ => o.request.allowedInSafe = true
  | .sending o frame output =>
    o.request.allowedInSafe = true ∧ output = false ∧
      (o.request = .exchange → frame = downFrame (natByte o.addr) 0x01 [0x01])
  | .idle | .awaiting _ _ _ | .receiving _ _ _ _ | .draining _ _ _ => True

/-- The transfer sends segments now or after its backoff (R106, R109). -/
def BulkState.moving : BulkState → Bool
  | .running | .waiting _ => true
  | .empty | .filling | .suspended _ | .ended _ => false

/-- The entry is no PASS that an arbitration may order. -/
def Entry.NoPassWant (e : Entry) : Prop := e.kind.isPass = true → e.phase = .onLine

/-- No PASS entry of the queue is a want. -/
def ReqQueue.NoPassWant (q : ReqQueue) : Prop := ∀ e ∈ q.entries, e.NoPassWant

/-- What R136 speaks of: the SAFE flag, the transfer's state, the request queue and the line's phase. -/
structure SafeView where
  safe : Bool
  transfer : BulkState
  queue : ReqQueue
  phase : LinePhase

/-- The part of the state that R136 speaks of. -/
def State.safeView (s : State) : SafeView := ⟨s.sched.safe, s.bulk.state, s.queue, s.line.phase⟩

/-- While SAFE is on no transfer moves, no PASS entry is a want, and the line is allowed: the safe law with the
frame that is being sent. -/
def SafeView.OutputsHeld (v : SafeView) : Prop :=
  v.safe = true → v.transfer.moving = false ∧ v.queue.NoPassWant ∧ v.phase.AllowedInSafe

/-- The outputs are held in a state. -/
def State.OutputsHeld (s : State) : Prop := s.safeView.OutputsHeld

section Rules
variable {s t : State}

/-! ### The rules of the state -/

theorem State.OutputsHeld.of_view (hs : s.OutputsHeld) (hview : t.safeView = s.safeView) : t.OutputsHeld := by
  rw [State.OutputsHeld, hview]
  exact hs

theorem State.OutputsHeld.of_safe_off (h : t.sched.safe = false) : t.OutputsHeld :=
  fun hsafe => absurd (h.symm.trans hsafe) Bool.false_ne_true

theorem State.OutputsHeld.not_moving (hs : s.OutputsHeld) (hsafe : s.sched.safe = true) :
    s.bulk.state.moving = false := (hs hsafe).1

theorem State.OutputsHeld.noPassWant (hs : s.OutputsHeld) (hsafe : s.sched.safe = true) :
    s.queue.NoPassWant := (hs hsafe).2.1

theorem State.OutputsHeld.phase_allowed (hs : s.OutputsHeld) (hsafe : s.sched.safe = true) :
    s.line.phase.AllowedInSafe := (hs hsafe).2.2

/-- Another scheduler with the same SAFE flag. -/
theorem State.OutputsHeld.withSched {x : Sched} (hs : s.OutputsHeld) (hsafe : x.safe = s.sched.safe) :
    (s.withSched x).OutputsHeld :=
  hs.of_view (by simp [State.safeView, hsafe])

/-- Another transfer record whose transfer does not begin to move while SAFE is on. -/
theorem State.OutputsHeld.withBulk {b : Bulk} (hs : s.OutputsHeld)
    (hstill : s.sched.safe = true → s.bulk.state.moving = false → b.state.moving = false) :
    (s.withBulk b).OutputsHeld :=
  fun hsafe => ⟨hstill hsafe (hs.not_moving hsafe), hs.noPassWant hsafe, hs.phase_allowed hsafe⟩

/-- Another request queue that gains no PASS want while SAFE is on. -/
theorem State.OutputsHeld.withQueue {q : ReqQueue} (hs : s.OutputsHeld)
    (hqueue : s.sched.safe = true → s.queue.NoPassWant → q.NoPassWant) : (s.withQueue q).OutputsHeld :=
  fun hsafe => ⟨hs.not_moving hsafe, hqueue hsafe (hs.noPassWant hsafe), hs.phase_allowed hsafe⟩

/-- Another line controller whose phase is allowed while SAFE is on. -/
theorem State.OutputsHeld.withLine {l : LineCtl} (hs : s.OutputsHeld)
    (hphase : s.sched.safe = true → s.line.phase.AllowedInSafe → l.phase.AllowedInSafe) :
    (s.withLine l).OutputsHeld :=
  fun hsafe => ⟨hs.not_moving hsafe, hs.noPassWant hsafe, hphase hsafe (hs.phase_allowed hsafe)⟩

/-! ### The safe law and the frame begun -/

theorem LinePhase.allowedInSafe_gapWait {o : Order} {gap : Option Nat}
    (h : (LinePhase.gapWait o gap).withdrawn = none) : o.request.allowedInSafe = true := by
  simp only [LinePhase.withdrawn] at h
  cases hreq : o.request with
  | pass bytes => simp [hreq] at h
  | segment index last cancel data =>
    cases cancel with
    | true => rfl
    | false => simp [hreq] at h
  | exchange | status | safe => rfl

/-- The line outside SENDING is allowed where it holds no order that SAFE entry withdraws (R29). -/
theorem LinePhase.allowedInSafe_of_not_withdrawn {p : LinePhase} (hsending : p.isSending = false)
    (h : p.withdrawn = none) : p.AllowedInSafe := by
  cases p with
  | gapWait o gap => exact LinePhase.allowedInSafe_gapWait h
  | sending o frame output => simp [LinePhase.isSending] at hsending
  | idle | awaiting | receiving | draining => trivial

/-- Where no frame is being sent the safe law holds the outputs. -/
theorem State.OutputsHeld.of_safeLaw (hlaw : s.safeLaw = true) (hsending : s.line.phase.isSending = false) :
    s.OutputsHeld := by
  intro (hsafe : s.sched.safe = true)
  simp only [State.safeLaw, hsafe, Bool.and_eq_true, Bool.not_true, Bool.false_or, Bool.or_true, true_and,
    Option.isNone_iff_eq_none, List.all_eq_true] at hlaw
  obtain ⟨⟨htransfer, hqueue⟩, hphase⟩ := hlaw
  refine ⟨?transfer, fun e he hpass => ?pass, LinePhase.allowedInSafe_of_not_withdrawn hsending hphase⟩
  case transfer =>
    change s.bulk.state.moving = false
    cases hstate : s.bulk.state with
    | running | waiting => simp [hstate] at htransfer
    | empty | filling | suspended | ended => rfl
  case pass => simpa [hpass] using hqueue e he

theorem State.outputBlock_safe (hsafe : s.sched.safe = true) (n : Nat) : s.outputBlock n = none := by
  simp [State.outputBlock, hsafe]

/-- While SAFE is on no order gets an output block (R75). -/
theorem State.blockFor_safe (hsafe : s.sched.safe = true) (o : Order) : s.blockFor o = none := by
  unfold State.blockFor
  split
  · exact State.outputBlock_safe hsafe _
  · rfl

/-- The frame that begins for an allowed order is allowed. -/
theorem State.OutputsHeld.beginSending {o : Order} (hs : s.OutputsHeld)
    (hallowed : s.sched.safe = true → o.request.allowedInSafe = true) : (s.beginSending o).OutputsHeld :=
  hs.withLine fun hsafe _ => by
    have hblock := State.blockFor_safe hsafe o
    refine ⟨hallowed hsafe, by simp [hblock], fun hexchange => ?_⟩
    rw [State.buildFrame, hblock, hexchange]
    rfl

/-- An allowed order is accepted: it waits for the gap, or its frame begins (R28). -/
theorem State.OutputsHeld.acceptOrder {o : Order} (hs : s.OutputsHeld)
    (hallowed : s.sched.safe = true → o.request.allowedInSafe = true) : (s.acceptOrder o).OutputsHeld := by
  unfold State.acceptOrder
  split
  · exact hs.withLine fun hsafe _ => hallowed hsafe
  · split
    · exact hs.beginSending hallowed
    · exact hs.withLine fun hsafe _ => hallowed hsafe

/-! ### Operations beside the scheduler, the transfer, the queue and the line -/

theorem State.wake_safeView (s : State) : s.wake.safeView = s.safeView := by
  rw [State.wake_frame]
  rfl

theorem State.OutputsHeld.offer (hs : s.OutputsHeld) (n : Notice) : (s.offer n).OutputsHeld := hs.of_view rfl

theorem State.OutputsHeld.answer (hs : s.OutputsHeld) (f : UpFrame) (r : Result) (content : List Byte) :
    (s.answer f r content).OutputsHeld := hs.of_view rfl

theorem State.offerIf_safeView (s : State) (b : Bool) (n : Notice) : (s.offerIf b n).safeView = s.safeView := by
  unfold State.offerIf
  split <;> rfl

/-! ### The walk and the scheduler's positions -/

/-- No move of the walk touches the SAFE flag. -/
theorem State.walkMove_safe (s : State) : s.walkMove.1.sched.safe = s.sched.safe := by
  unfold State.walkMove
  split
  · split <;> rfl
  · simp only []
    split
    · split <;> rfl
    · split
      · simp only [State.cycleBoundary]
        split <;> rfl
      · split <;> rfl

theorem walkMoves_safe (k : Nat) (s : State) : (walkMoves k s).sched.safe = s.sched.safe := by
  induction k generalizing s with
  | zero => rfl
  | succ k ih =>
    simp only [walkMoves]
    split
    · exact (ih _).trans s.walkMove_safe
    · exact s.walkMove_safe

theorem State.walk_safe (s : State) : s.walk.sched.safe = s.sched.safe := by
  unfold State.walk
  split
  · exact walkMoves_safe _ s
  · rfl

theorem State.walk_safeView (s : State) : s.walk.safeView = s.safeView := by
  rw [State.walk_frame]
  simp only [State.safeView, State.walk_safe]

theorem State.passStep_safe (s : State) (st : SchedStep) : (s.passStep st).safe = s.sched.safe := by
  unfold State.passStep
  split <;> rfl

theorem State.OutputsHeld.stepFinal (hs : s.OutputsHeld) (st : SchedStep) : (s.stepFinal st).OutputsHeld :=
  (hs.withSched (s.passStep_safe st)).of_view (State.walk_safeView _)

theorem State.OutputsHeld.dropReady (hs : s.OutputsHeld) (st : SchedStep) : (s.dropReady st).OutputsHeld :=
  (hs.withSched (s.passStep_safe st)).of_view (State.walk_safeView _)

theorem State.OutputsHeld.scheduleRestart (hs : s.OutputsHeld) (keepWait : Bool) :
    (s.scheduleRestart keepWait).OutputsHeld :=
  (hs.withSched rfl).of_view (State.walk_safeView _)

/-! ### The request queue -/

theorem ReqQueue.noPassWant_iff {q : ReqQueue} :
    q.NoPassWant ↔ (∀ e ∈ q.urgent, e.NoPassWant) ∧ (∀ e ∈ q.normal, e.NoPassWant) := by
  simp only [ReqQueue.NoPassWant, ReqQueue.entries, List.mem_append, or_imp, forall_and]

theorem ReqQueue.NoPassWant.fifo {q : ReqQueue} (hq : q.NoPassWant) (c : QueueClass) :
    ∀ e ∈ q.fifo c, e.NoPassWant := by
  obtain ⟨hurgent, hnormal⟩ := ReqQueue.noPassWant_iff.mp hq
  cases c with
  | urgent => exact hurgent
  | normal => exact hnormal

theorem ReqQueue.NoPassWant.setFifo {q : ReqQueue} (hq : q.NoPassWant) (c : QueueClass) {l : List Entry}
    (hl : ∀ e ∈ l, e.NoPassWant) : (q.setFifo c l).NoPassWant := by
  obtain ⟨hurgent, hnormal⟩ := ReqQueue.noPassWant_iff.mp hq
  cases c with
  | urgent => exact ReqQueue.noPassWant_iff.mpr ⟨hl, hnormal⟩
  | normal => exact ReqQueue.noPassWant_iff.mpr ⟨hurgent, hl⟩

/-- A completion removes entries and adds none (R91). -/
theorem State.OutputsHeld.complete (hs : s.OutputsHeld) (verdict : Entry → Option (Result × List Byte)) :
    (s.complete verdict).OutputsHeld := by
  refine (hs.withQueue fun _ hq => ?_).of_view rfl
  obtain ⟨hurgent, hnormal⟩ := ReqQueue.noPassWant_iff.mp hq
  exact ReqQueue.noPassWant_iff.mpr
    ⟨fun e he => hurgent e (List.mem_of_mem_filter he), fun e he => hnormal e (List.mem_of_mem_filter he)⟩

theorem State.OutputsHeld.completeHead (hs : s.OutputsHeld) (c : QueueClass) (r : Result)
    (content : List Byte) : (s.completeHead c r content).OutputsHeld := by
  unfold State.completeHead
  split
  · exact hs
  · rename_i e rest hfifo
    have hheld : (s.withQueue (s.queue.setFifo c rest)).OutputsHeld := hs.withQueue fun _ hq =>
      hq.setFifo c fun x hx => hq.fifo c x (hfifo ▸ List.mem_cons_of_mem e hx)
    exact hheld.of_view rfl

theorem State.OutputsHeld.setHead {e : Entry} (hs : s.OutputsHeld) (c : QueueClass)
    (he : s.sched.safe = true → e.NoPassWant) : (s.setHead c e).OutputsHeld := by
  unfold State.setHead
  split
  · exact hs
  · rename_i head rest hfifo
    exact hs.withQueue fun hsafe hq => hq.setFifo c <| List.forall_mem_cons.mpr
      ⟨he hsafe, fun x hx => hq.fifo c x (hfifo ▸ List.mem_cons_of_mem head hx)⟩

theorem State.OutputsHeld.enqueue {e : Entry} (hs : s.OutputsHeld) (c : QueueClass)
    (he : s.sched.safe = true → e.NoPassWant) : (s.enqueue c e).OutputsHeld :=
  hs.withQueue fun hsafe hq => hq.setFifo c <| List.forall_mem_append.mpr
    ⟨hq.fifo c, List.forall_mem_singleton.mpr (he hsafe)⟩

/-! ### Ends of a transfer -/

/-- A transfer that ends does not move. -/
theorem State.OutputsHeld.endTransfer (hs : s.OutputsHeld) (b : Bulk) (o : BulkOutcome) :
    (s.endTransfer b o).OutputsHeld :=
  (hs.withBulk fun _ _ => rfl).of_view rfl

theorem State.OutputsHeld.bulkOffline (hs : s.OutputsHeld) (n : Nat) : (s.bulkOffline n).OutputsHeld := by
  unfold State.bulkOffline
  split
  · exact hs.endTransfer _ _
  · exact hs

end Rules

end Sys2Proof.Machine
end

section
/-! PROOFS. Outcomes, arbitrations and applications hold the outputs while SAFE is on (R89, R107, R122, R136,
R162). -/

namespace Sys2Proof.Machine

section Outcomes
variable {s : State}

/-! ### What each block does with an outcome -/

theorem State.OutputsHeld.handOffline (hs : s.OutputsHeld) (n : Nat) : (s.handOffline n).OutputsHeld :=
  (hs.complete _).bulkOffline n

theorem State.OutputsHeld.nodeTakes (hs : s.OutputsHeld) (n : Nat) (o : LineOutcome) :
    (s.nodeTakes n o).OutputsHeld := by
  have hnode : (s.setNode n ((s.node n).take (s.cfg n) o)).OutputsHeld := hs.of_view rfl
  have hhealth := hnode.of_view (State.offerIf_safeView _ ((s.node n).healthNotice (s.cfg n) o) (.health n 0))
  have hattention := hhealth.of_view (State.offerIf_safeView _ ((s.node n).attentionNotice o) (.attention n))
  unfold State.nodeTakes
  simp only []
  split
  · exact hattention.handOffline n
  · exact hattention

theorem State.imageTakes_safeView (s : State) (n : Nat) (status : Byte) (block : List Byte) :
    (s.imageTakes n status block).safeView = s.safeView :=
  State.offerIf_safeView _ _ _

theorem State.OutputsHeld.blocksTake (hs : s.OutputsHeld) (n : Nat) (o : LineOutcome) :
    (s.blocksTake n o).OutputsHeld := by
  have hchoice : s.countChoice.OutputsHeld := hs.of_view rfl
  unfold State.blocksTake
  split
  · simp only []
    split
    · exact (hchoice.of_view (State.imageTakes_safeView _ _ _ _)).nodeTakes _ _
    · exact (hchoice.nodeTakes _ _).of_view (State.imageTakes_safeView _ _ _ _)
  · exact hs.nodeTakes _ _

/-! ### Owners -/

theorem State.OutputsHeld.scheduleTakes (hs : s.OutputsHeld) (n : Nat) (o : LineOutcome) (entered : Bool) :
    (s.scheduleTakes n o entered).OutputsHeld := by
  unfold State.scheduleTakes
  split
  · exact hs.withSched rfl
  · exact hs
  · split
    · exact hs.withSched rfl
    · exact hs.stepFinal _

/-- A PASS that wants a retry while SAFE is on is completed, so no PASS awaits one (R96). -/
theorem State.OutputsHeld.demandTakes (hs : s.OutputsHeld) (c : QueueClass) (outputSent : Bool)
    (o : LineOutcome) (entered : Bool) : (s.demandTakes c outputSent o entered).OutputsHeld := by
  unfold State.demandTakes
  split
  · exact hs
  · split
    · split
      · exact hs.completeHead _ _ _
      · rename_i hretry
        exact hs.setHead c fun hsafe hpass => absurd (by simpa [hsafe] using hpass) hretry
    · exact hs.completeHead _ _ _

/-- A busy segment makes a RUNNING transfer WAITING, which moved before; no other outcome makes one move. -/
theorem State.OutputsHeld.segmentTakes (hs : s.OutputsHeld) (o : LineOutcome) (index : Nat)
    (last entered : Bool) : (s.segmentTakes o index last entered).OutputsHeld := by
  unfold State.segmentTakes
  simp only []
  split
  · split
    · exact hs.endTransfer _ _
    · exact hs.withBulk fun _ hstill => hstill
  · split
    · exact hs.endTransfer _ _
    · refine hs.withBulk fun _ hstill => ?_
      have hrunning : s.bulk.state ≠ .running := fun h => by simp [h, BulkState.moving] at hstill
      simpa [hrunning] using hstill
  · exact hs.endTransfer _ _
  · exact hs.endTransfer _ _
  · split
    · exact hs.withBulk fun _ hstill => hstill
    · exact hs.endTransfer _ _
  · exact hs
  · exact hs

theorem State.OutputsHeld.bulkTakes (hs : s.OutputsHeld) (req : Request) (o : LineOutcome) (entered : Bool) :
    (s.bulkTakes req o entered).OutputsHeld := by
  unfold State.bulkTakes
  split
  · exact hs.withBulk fun _ hstill => hstill
  · split
    · split
      · exact hs.segmentTakes _ _ _ _
      · exact hs
    · exact hs.withBulk fun _ hstill => hstill

theorem State.OutputsHeld.ownerTakes (hs : s.OutputsHeld) (ord : Order) (outputSent : Bool) (o : LineOutcome)
    (entered : Bool) : (s.ownerTakes ord outputSent o entered).OutputsHeld := by
  unfold State.ownerTakes
  cases ord.owner with
  | schedule => exact hs.scheduleTakes _ _ _
  | demand c => exact hs.demandTakes _ _ _ _
  | bulk => exact hs.bulkTakes _ _ _
  | none => exact hs

/-- An outcome is delivered with the line in IDLE (R36). -/
theorem State.OutputsHeld.deliver (hs : s.OutputsHeld) (ord : Order) (outputSent : Bool) (o : LineOutcome) :
    (s.deliver ord outputSent o).OutputsHeld := by
  have hidle : ((s.countLine fun c => o.count c).setPhase .idle).OutputsHeld := hs.withLine fun _ _ => trivial
  exact (hidle.blocksTake _ _).ownerTakes _ _ _ _

end Outcomes

section Arbiter
variable {s : State}

/-! ### Ordering each want -/

theorem State.OutputsHeld.orderSafe (hs : s.OutputsHeld) : s.orderSafe.OutputsHeld := by
  refine State.OutputsHeld.acceptOrder ?_ fun _ => rfl
  exact hs.withSched rfl

/-- An entry that is no PASS is ordered as an allowed transaction (R80). -/
theorem EntryKind.request_allowedInSafe {k : EntryKind} (h : k.isPass = false) :
    k.request.allowedInSafe = true := by
  cases k with
  | pass bytes => simp [EntryKind.isPass] at h
  | refresh | exchange | probe => rfl

/-- The head that is ordered while SAFE is on is no PASS. -/
theorem State.OutputsHeld.orderHead {c : QueueClass} (hs : s.OutputsHeld) (hwant : s.headWant c = true) :
    (s.orderHead c).OutputsHeld := by
  unfold State.orderHead
  split
  · exact hs
  · rename_i e rest hfifo
    have hphase : e.phase ≠ .onLine := by simpa [State.headWant, hfifo] using hwant
    refine (hs.setHead c fun _ _ => rfl).acceptOrder fun hsafe => ?_
    have hflag : s.sched.safe = true := by simpa [State.setHead, hfifo] using hsafe
    have hentry : e.NoPassWant := (hs.noPassWant hflag).fifo c e (hfifo ▸ List.mem_cons_self)
    exact EntryKind.request_allowedInSafe (Bool.eq_false_iff.mpr (mt hentry hphase))

theorem State.OutputsHeld.orderNormal (hs : s.OutputsHeld) (hwant : s.headWant .normal = true) :
    s.orderNormal.OutputsHeld :=
  State.OutputsHeld.orderHead (hs.withSched rfl) hwant

theorem State.OutputsHeld.orderCancel (hs : s.OutputsHeld) (node index : Nat) :
    (s.orderCancel node index).OutputsHeld := by
  refine State.OutputsHeld.acceptOrder ?_ fun _ => rfl
  exact hs.withBulk fun _ hstill => hstill

theorem State.segmentWant_running (hwant : s.segmentWant = true) : s.bulk.state = .running := by
  simp only [State.segmentWant, Bool.and_eq_true, decide_eq_true_eq] at hwant
  obtain ⟨⟨hrunning, -⟩, -⟩ := hwant
  exact hrunning

/-- A segment is ordered of a RUNNING transfer alone, and none runs while SAFE is on (R113). -/
theorem State.OutputsHeld.orderSegment (hs : s.OutputsHeld) (hwant : s.segmentWant = true) :
    s.orderSegment.OutputsHeld := by
  have hoff : s.sched.safe = false := Bool.eq_false_iff.mpr fun hsafe => by
    have hstill := hs.not_moving hsafe
    rw [State.segmentWant_running hwant] at hstill
    exact absurd hstill (by decide)
  refine .of_safe_off ?_
  rw [State.orderSegment, State.acceptOrder_line]
  exact hoff

theorem StepKind.request_allowedInSafe (k : StepKind) : k.request.allowedInSafe = true := by
  cases k <;> rfl

theorem State.loadCountdown_safeView (s : State) (st : SchedStep) :
    (s.loadCountdown st).safeView = s.safeView := by
  unfold State.loadCountdown
  split <;> rfl

theorem State.OutputsHeld.orderStep (hs : s.OutputsHeld) (st : SchedStep) : (s.orderStep st).OutputsHeld := by
  have hview := s.loadCountdown_safeView st
  refine State.OutputsHeld.acceptOrder ?_ fun _ => st.kind.request_allowedInSafe
  exact (hs.of_view hview).withSched (congrArg SafeView.safe hview).symm

theorem State.OutputsHeld.orderStepRetry (hs : s.OutputsHeld) (a : Attached) :
    (s.orderStepRetry a).OutputsHeld := by
  refine State.OutputsHeld.acceptOrder ?_ fun _ => a.step.kind.request_allowedInSafe
  exact hs.withSched rfl

theorem State.OutputsHeld.orderSchedule (hs : s.OutputsHeld) : s.orderSchedule.OutputsHeld := by
  unfold State.orderSchedule
  split
  · exact hs.orderStep _
  · exact hs.orderStepRetry _
  · exact hs

/-! ### One arbitration -/

theorem State.OutputsHeld.arbitrateLow (hs : s.OutputsHeld) : s.arbitrateLow.1.OutputsHeld := by
  unfold State.arbitrateLow
  split
  · rename_i hsegment
    exact hs.orderSegment (Bool.and_eq_true_iff.mp hsegment).1
  · split
    · rename_i hnormal
      exact hs.orderNormal (Bool.and_eq_true_iff.mp hnormal).1
    · exact hs

theorem State.OutputsHeld.arbitrateFive (hs : s.OutputsHeld) : s.arbitrateFive.1.OutputsHeld := by
  unfold State.arbitrateFive
  split
  · exact hs.orderSafe
  · split
    · rename_i hurgent
      exact hs.orderHead hurgent
    · split
      · split
        · split
          · exact hs.orderCancel _ _
          · refine State.OutputsHeld.arbitrateLow ?_
            exact hs.withBulk fun _ hstill => hstill
        · exact hs.arbitrateLow
      · exact hs.arbitrateLow

theorem State.OutputsHeld.dropSchedule (hs : s.OutputsHeld) : s.dropSchedule.OutputsHeld := by
  unfold State.dropSchedule
  split
  · exact hs.dropReady _
  · exact hs.stepFinal _
  · exact hs

theorem State.OutputsHeld.arbitrate (hs : s.OutputsHeld) : s.arbitrate.OutputsHeld := by
  have hfive := hs.arbitrateFive
  unfold State.arbitrate
  simp only []
  split
  · exact hfive
  · split
    · exact hfive
    · split
      · exact hfive.orderSchedule
      · split
        · exact hfive.dropSchedule.orderSchedule
        · exact hfive.dropSchedule.arbitrateFive

end Arbiter

section EventEnd
variable {s : State}

/-! ### The application of a pending commit -/

theorem State.OutputsHeld.bulkApplied (hs : s.OutputsHeld) (old : TableSet) :
    (s.bulkApplied old).OutputsHeld := by
  unfold State.bulkApplied
  simp only []
  split
  · exact hs.endTransfer _ _
  · exact hs.withBulk fun _ hstill => hstill

theorem State.OutputsHeld.applicationOffers (hs : s.OutputsHeld) (old : TableSet) :
    (s.applicationOffers old).OutputsHeld := by
  have hchoice : s.countChoice.OutputsHeld := hs.of_view rfl
  unfold State.applicationOffers
  simp only []
  split
  · split
    · exact (hchoice.bulkApplied old).offer _
    · exact (hchoice.offer _).bulkApplied old
  · exact (hs.offer _).bulkApplied old

theorem State.OutputsHeld.apply (hs : s.OutputsHeld) : s.apply.OutputsHeld := by
  have hrecords : ((s.withTables s.tables.applied).recordsApplied s.tables.active).OutputsHeld := hs.of_view rfl
  refine State.OutputsHeld.scheduleRestart ?_ true
  exact ((hrecords.complete _).applicationOffers _).of_view rfl

/-! ### The end of an event -/

theorem State.OutputsHeld.turn (hs : s.OutputsHeld) : s.turn.OutputsHeld := by
  have hchoice : s.countChoice.OutputsHeld := hs.of_view rfl
  unfold State.turn
  split
  · split
    · exact hchoice.apply
    · exact hchoice.arbitrate
  · split
    · exact hs.apply
    · split
      · exact hs.arbitrate
      · exact hs

theorem State.OutputsHeld.wake (hs : s.OutputsHeld) : s.wake.OutputsHeld := hs.of_view s.wake_safeView

theorem State.OutputsHeld.follow (hs : s.OutputsHeld) : s.follow.OutputsHeld := hs.turn.turn.turn.wake

theorem State.OutputsHeld.close (hs : s.OutputsHeld) : s.close.OutputsHeld := hs.wake.follow

end EventEnd

end Sys2Proof.Machine
end

section
/-! PROOFS. Every command holds the outputs while SAFE is on, and the frames begun in it (R75, R84, R96, R104,
R112, R113, R135, R136). -/

namespace Sys2Proof.Machine

section Requests
variable {s : State}

/-! ### Requests that join the queue or leave it (R84, R87, R93, R94) -/

theorem newEntry_noPassWant {kind : EntryKind} (hkind : kind.isPass = false) (n : Nat) (t : TagSlot) :
    (newEntry kind n t).NoPassWant :=
  fun hpass => absurd (hkind.symm.trans hpass) Bool.false_ne_true

/-- A tag that joins an entry of the queue or moves one to the other class makes no PASS want. -/
theorem State.OutputsHeld.takeRefresh (hs : s.OutputsHeld) (n : Nat) (urgent : Bool) (t : TagSlot) :
    (s.takeRefresh n urgent t).OutputsHeld := by
  have hjoin {l : List Entry} (hl : ∀ e ∈ l, e.NoPassWant) : ∀ e ∈ joinIn n t l, e.NoPassWant := by
    refine List.forall_mem_map.mpr fun e he => ?_
    split
    · exact hl e he
    · exact hl e he
  unfold State.takeRefresh
  simp only []
  split
  · refine hs.withQueue fun _ hq => ?_
    obtain ⟨hurgent, hnormal⟩ := ReqQueue.noPassWant_iff.mp hq
    exact ReqQueue.noPassWant_iff.mpr ⟨hjoin hurgent, hnormal⟩
  · split
    · rename_i e hfind
      split
      · refine hs.withQueue fun _ hq => ?_
        obtain ⟨hurgent, hnormal⟩ := ReqQueue.noPassWant_iff.mp hq
        have hmoved : (e.addTag t).NoPassWant := hnormal e (List.mem_of_find?_eq_some hfind)
        exact ReqQueue.noPassWant_iff.mpr
          ⟨List.forall_mem_append.mpr ⟨hurgent, List.forall_mem_singleton.mpr hmoved⟩,
            fun x hx => hnormal x (List.mem_of_mem_filter hx)⟩
      · refine hs.withQueue fun _ hq => ?_
        obtain ⟨hurgent, hnormal⟩ := ReqQueue.noPassWant_iff.mp hq
        exact ReqQueue.noPassWant_iff.mpr ⟨hurgent, hjoin hnormal⟩
    · exact hs.enqueue _ fun _ => newEntry_noPassWant rfl n t

theorem State.OutputsHeld.readInput (hs : s.OutputsHeld) (f : UpFrame) : (s.readInput f).OutputsHeld := by
  unfold State.readInput
  simp only []
  split
  · exact hs.answer _ _ _
  · split
    · exact hs.answer _ _ _
    · split
      · exact hs.answer _ _ _
      · split
        · exact hs.answer _ _ _
        · split
          · exact hs.answer _ _ _
          · exact hs.takeRefresh _ _ _

theorem State.OutputsHeld.takeWrite (hs : s.OutputsHeld) (f : UpFrame) : (s.takeWrite f).OutputsHeld := by
  have hwrite : (s.writeOutput f.addr.toNat f.payload).OutputsHeld := hs.of_view rfl
  unfold State.takeWrite
  simp only []
  split
  · exact hs.answer _ _ _
  · split
    · exact hs.answer _ _ _
    · split
      · exact hs.answer _ _ _
      · split
        · exact hs.answer _ _ _
        · exact hwrite.answer _ _ _

/-- A PASS is refused while SAFE is on (R84 step 5). -/
theorem State.demandRefusal_pass {kind : EntryKind} {n : Nat} {d : DemandFields} (hsafe : s.sched.safe = true)
    (hpass : kind.isPass = true) : s.demandRefusal kind n d ≠ none := by
  unfold State.demandRefusal
  simp only [hsafe, hpass, Bool.and_self, if_true]
  repeat' split
  all_goals simp

theorem State.OutputsHeld.takeDemand (hs : s.OutputsHeld) (f : UpFrame) (kind : EntryKind) (d : DemandFields) :
    (s.takeDemand f kind d).OutputsHeld := by
  unfold State.takeDemand
  split
  · exact hs.answer _ _ _
  · rename_i haccepted
    exact hs.enqueue _ fun hsafe hpass => absurd haccepted (State.demandRefusal_pass hsafe hpass)

theorem entriesWithout_noPassWant {l : List Entry} (hl : ∀ e ∈ l, e.NoPassWant) (tag : Byte) :
    ∀ e ∈ entriesWithout tag l, e.NoPassWant := by
  intro e he
  obtain ⟨x, hx, rfl⟩ := List.mem_map.mp (List.mem_of_mem_filter he)
  exact hl x hx

theorem State.OutputsHeld.removeTag (hs : s.OutputsHeld) (e : Entry) (tag : Byte) (r : Result) :
    (s.removeTag e tag r).OutputsHeld := by
  refine (hs.withQueue (q := s.queue.dropTag tag) fun _ hq => ?_).of_view rfl
  obtain ⟨hurgent, hnormal⟩ := ReqQueue.noPassWant_iff.mp hq
  rw [ReqQueue.dropTag_eq]
  exact ReqQueue.noPassWant_iff.mpr
    ⟨entriesWithout_noPassWant hurgent tag, entriesWithout_noPassWant hnormal tag⟩

theorem State.OutputsHeld.takeCancel (hs : s.OutputsHeld) (f : UpFrame) : (s.takeCancel f).OutputsHeld := by
  unfold State.takeCancel
  simp only []
  split
  · exact hs.answer _ _ _
  · split
    · exact (hs.removeTag _ _ _).answer _ _ _
    · exact hs.answer _ _ _

end Requests

section TablesAndRun
variable {s : State}

/-! ### Tables, run states and notices -/

theorem State.OutputsHeld.takeLoad (hs : s.OutputsHeld) (f : UpFrame) (load : TableSet → Option TableSet) :
    (s.takeLoad f load).OutputsHeld := by
  unfold State.takeLoad
  split
  · exact hs.answer _ _ _
  · split
    · exact hs.answer _ _ _
    · exact hs.of_view rfl

theorem State.OutputsHeld.takeReadTable (hs : s.OutputsHeld) (f : UpFrame) :
    (s.takeReadTable f).OutputsHeld := by
  unfold State.takeReadTable
  split
  · split
    · exact hs.answer _ _ _
    · exact hs.answer _ _ _
  · exact hs.answer _ _ _

theorem State.OutputsHeld.takeCommit (hs : s.OutputsHeld) (f : UpFrame) : (s.takeCommit f).OutputsHeld := by
  unfold State.takeCommit
  split
  · exact hs.answer _ _ _
  · split
    · exact hs.answer _ _ _
    · exact hs.of_view rfl

/-- The walk that a change of the run state lets go on. -/
theorem State.OutputsHeld.setRun_walk (hs : s.OutputsHeld) (r : RunState) : (s.setRun r).walk.OutputsHeld :=
  State.OutputsHeld.of_view (s := s.setRun r) (hs.withSched rfl) (State.walk_safeView _)

theorem State.OutputsHeld.takeStart (hs : s.OutputsHeld) (f : UpFrame) : (s.takeStart f).OutputsHeld := by
  unfold State.takeStart
  split
  · exact hs.answer _ _ _
  · split
    · exact hs.answer _ _ _
    · exact (hs.setRun_walk _).answer _ _ _

theorem State.OutputsHeld.takeStop (hs : s.OutputsHeld) (f : UpFrame) : (s.takeStop f).OutputsHeld := by
  have hstopped : (s.setRun .stopped).OutputsHeld := hs.withSched rfl
  unfold State.takeStop
  split
  · exact hs.answer _ _ _
  · exact (hstopped.scheduleRestart false).answer _ _ _

theorem State.OutputsHeld.takeSuspend (hs : s.OutputsHeld) (f : UpFrame) : (s.takeSuspend f).OutputsHeld := by
  have hsuspended : (s.withSched s.sched.suspend).OutputsHeld := hs.withSched rfl
  unfold State.takeSuspend
  split
  · exact hsuspended.answer _ _ _
  · exact hs.answer _ _ _

theorem State.OutputsHeld.takeResume (hs : s.OutputsHeld) (f : UpFrame) : (s.takeResume f).OutputsHeld := by
  unfold State.takeResume
  split
  · exact (hs.setRun_walk _).answer _ _ _
  · exact hs.answer _ _ _

theorem State.OutputsHeld.takeClearSafe (hs : s.OutputsHeld) (f : UpFrame) :
    (s.takeClearSafe f).OutputsHeld := by
  unfold State.takeClearSafe
  split
  · exact .of_safe_off rfl
  · exact hs.answer _ _ _

theorem State.OutputsHeld.takeAck (hs : s.OutputsHeld) (f : UpFrame) (sequence : Byte) :
    (s.takeAck f sequence).OutputsHeld := by
  unfold State.takeAck
  split
  · exact hs.answer _ _ _
  · split
    · exact hs.of_view rfl
    · exact hs.answer _ _ _

end TablesAndRun

section BulkCommands
variable {s : State}

/-! ### The bulk commands: none makes a transfer move while SAFE is on (R104, R112) -/

theorem State.OutputsHeld.takeOpen (hs : s.OutputsHeld) (f : UpFrame) (node length : Nat) :
    (s.takeOpen f node length).OutputsHeld := by
  have hopened : (s.withBulk (s.bulk.opened node length)).OutputsHeld := hs.withBulk fun _ _ => rfl
  unfold State.takeOpen
  split
  · exact hs.answer _ _ _
  · split
    · exact hs.answer _ _ _
    · exact hopened.answer _ _ _

theorem State.OutputsHeld.takeData {t : State} (hs : s.OutputsHeld) (f : UpFrame) (offset : Nat)
    (data : List Byte) (h : s.takeData f offset data = .next t) : t.OutputsHeld := by
  have hfilled : (s.withBulk (s.bulk.filledWith offset data)).OutputsHeld := hs.withBulk fun _ hstill => hstill
  unfold State.takeData at h
  split at h
  · cases h
    exact hs.answer _ _ _
  · split at h
    · cases h
    · cases h
      exact hfilled.answer _ _ _

/-- BULK_START's last refusal is the SAFE flag (R104 step 6). -/
theorem State.startRefusal_safe (h : s.startRefusal = none) : s.sched.safe = false := by
  refine Bool.eq_false_iff.mpr fun hsafe => ?_
  unfold State.startRefusal at h
  simp only [hsafe, if_true] at h
  repeat' split at h
  all_goals cases h

theorem State.OutputsHeld.takeBulkStart (hs : s.OutputsHeld) (f : UpFrame) :
    (s.takeBulkStart f).OutputsHeld := by
  unfold State.takeBulkStart
  split
  · exact hs.answer _ _ _
  · rename_i hstarts
    have hoff : s.sched.safe = false := State.startRefusal_safe hstarts
    exact .of_safe_off hoff

theorem State.OutputsHeld.takeBulkSuspend (hs : s.OutputsHeld) (f : UpFrame) :
    (s.takeBulkSuspend f).OutputsHeld := by
  have hsuspended : (s.withBulk { s.bulk with state := .suspended .user }).OutputsHeld :=
    hs.withBulk fun _ _ => rfl
  unfold State.takeBulkSuspend
  split
  · exact hsuspended.answer _ _ _
  · exact hsuspended.answer _ _ _
  · exact hs.answer _ _ _

theorem State.OutputsHeld.takeBulkResume (hs : s.OutputsHeld) (f : UpFrame) :
    (s.takeBulkResume f).OutputsHeld := by
  unfold State.takeBulkResume
  split
  · split
    · exact hs.answer _ _ _
    · rename_i hsafe
      have hoff : s.sched.safe = false := Bool.eq_false_iff.mpr hsafe
      exact .of_safe_off hoff
  · exact hs.answer _ _ _

theorem State.OutputsHeld.takeAbort (hs : s.OutputsHeld) (f : UpFrame) : (s.takeAbort f).OutputsHeld := by
  have haborted : (s.withBulk { s.bulk with state := .ended .aborted }).OutputsHeld := hs.withBulk fun _ _ => rfl
  unfold State.takeAbort
  cases s.bulk.state with
  | filling => exact haborted.answer _ _ _
  | running | waiting | suspended => exact (hs.endTransfer _ _).answer _ _ _
  | empty | ended => exact hs.answer _ _ _

theorem State.OutputsHeld.takeClear (hs : s.OutputsHeld) (f : UpFrame) : (s.takeClear f).OutputsHeld := by
  have hcleared : (s.withBulk s.bulk.cleared).OutputsHeld := hs.withBulk fun _ _ => rfl
  unfold State.takeClear
  cases s.bulk.state with
  | filling | ended => exact hcleared.answer _ _ _
  | empty | running | waiting | suspended => exact hs.answer _ _ _

end BulkCommands

section SafeEntry
variable {s : State}

/-! ### SAFE entry (R29, R96, R113, R135) -/

theorem Bulk.safeEntered_not_moving (b : Bulk) : b.safeEntered.state.moving = false := by
  unfold Bulk.safeEntered
  cases hstate : b.state with
  | running | waiting => rfl
  | empty | filling | suspended | ended => simp only [hstate, BulkState.moving]

/-- The entries that SAFE entry leaves are no PASS wants. -/
theorem noPassWant_of_safeVerdict {passWithdrawn : Bool} {e : Entry}
    (h : (safeVerdict passWithdrawn e).isNone = true) : e.NoPassWant := by
  intro hpass
  by_contra hphase
  simp [safeVerdict, hpass, hphase] at h

/-- SAFE entry outside SENDING leaves an allowed line: the order it would not allow is withdrawn. -/
theorem State.withdraw_allowedInSafe (hsending : s.line.phase.isSending = false) :
    s.withdraw.line.phase.AllowedInSafe := by
  unfold State.withdraw
  split
  · trivial
  · rename_i hkept
    exact LinePhase.allowedInSafe_of_not_withdrawn hsending (by simpa using hkept)

/-- After SAFE entry the outputs are held, whatever stood before it, where no frame is being sent. -/
theorem State.enterSafe_outputsHeld (hsending : s.line.phase.isSending = false) :
    s.enterSafe.OutputsHeld := by
  intro _
  refine ⟨?transfer, ?queue, State.withdraw_allowedInSafe hsending⟩
  case transfer =>
    unfold State.enterSafe
    simp only []
    split
    · exact Bulk.safeEntered_not_moving _
    · exact Bulk.safeEntered_not_moving _
  case queue =>
    exact ReqQueue.noPassWant_iff.mpr
      ⟨fun _ he => noPassWant_of_safeVerdict (List.mem_filter.mp he).2,
        fun _ he => noPassWant_of_safeVerdict (List.mem_filter.mp he).2⟩

end SafeEntry

section Outs
variable {s : State}

/-! ### Answers of commands -/

/-- A command that goes on goes on to a state that holds the outputs. -/
def HoldsOutputs (out : Out) : Prop := ∀ t, out = .next t → t.OutputsHeld

theorem HoldsOutputs.next (hs : s.OutputsHeld) : HoldsOutputs (.next s) := by
  rintro t ⟨⟩
  exact hs

theorem HoldsOutputs.refused (r : Refusal) : HoldsOutputs (.refused r) := by
  rintro t ⟨⟩

theorem HoldsOutputs.cannot (mnemonic : String) : HoldsOutputs (cannot mnemonic) := .refused _

theorem HoldsOutputs.done (hs : s.OutputsHeld) : HoldsOutputs (done s) := .next hs.close

theorem HoldsOutputs.closeOut {out : Out} (hout : HoldsOutputs out) : HoldsOutputs (closeOut out) := by
  cases out with
  | next s => exact .done (hout s rfl)
  | fault f => rintro t ⟨⟩
  | refused r => exact .refused r

/-- A frame holds the outputs where its owner does (R167 to R169). -/
theorem State.OutputsHeld.takeFrame {f : UpFrame} {handle : State → Out} (hs : s.OutputsHeld)
    (mnemonic : String) (hhandle : ∀ s1 : State, s1.OutputsHeld → HoldsOutputs (handle s1)) :
    HoldsOutputs (s.takeFrame mnemonic f handle) := by
  have hcounted : s.frameCounted.OutputsHeld := hs.of_view rfl
  unfold State.takeFrame
  split
  · exact .next hs
  · split
    · exact .cannot _
    · simp only []
      split
      · exact .next (hcounted.of_view rfl)
      · split
        · exact .done (hcounted.of_view rfl)
        · split
          · exact .done (hcounted.of_view rfl)
          · exact .closeOut (hhandle _ hcounted)

end Outs
end Sys2Proof.Machine
end

section
/-! PROOFS. Every command from a state that holds the outputs goes on to one, and what a frame begun is then
(R136). -/

namespace Sys2Proof.Machine

section Events
variable {s : State}

/-! ### Resets, the receiver and the transmitter -/

theorem execPowerOnReset_holdsOutputs (upStrap downStrap : BitVec 2) (s : State) :
    HoldsOutputs (execPowerOnReset upStrap downStrap s) :=
  .next (.of_safe_off rfl)

/-- A warm restart leaves SAFE off (R139). -/
theorem State.warmRestart_outputsHeld (s : State) : s.warmRestart.OutputsHeld := .of_safe_off rfl

theorem State.OutputsHeld.execResetRelease (hs : s.OutputsHeld) : HoldsOutputs (execResetRelease s) := by
  unfold Machine.execResetRelease
  split
  · refine .next (State.OutputsHeld.wake ?_)
    exact hs.of_view rfl
  · exact .cannot _

theorem execWarmRestartTakesEffect_holdsOutputs (s : State) :
    HoldsOutputs (execWarmRestartTakesEffect s) := by
  unfold Machine.execWarmRestartTakesEffect
  split
  · exact .next s.warmRestart_outputsHeld.wake
  · exact .cannot _

theorem State.OutputsHeld.execTimebaseTick (hs : s.OutputsHeld) : HoldsOutputs (execTimebaseTick s) := by
  unfold Machine.execTimebaseTick
  split
  · exact .cannot _
  · exact .next (hs.of_view rfl)

theorem State.OutputsHeld.execHuntByte (hs : s.OutputsHeld) (byte : Byte) (framingFault : Bool) :
    HoldsOutputs (execHuntByte byte framingFault s) := by
  unfold Machine.execHuntByte
  split
  · exact .next hs
  · split
    · split
      · exact .next (hs.of_view rfl)
      · exact .cannot _
    · exact .cannot _

theorem State.OutputsHeld.setRx (hs : s.OutputsHeld) (r : RxPhase) : (s.setRx r).OutputsHeld := hs.of_view rfl

theorem State.OutputsHeld.checkError (hs : s.OutputsHeld) : s.checkError.OutputsHeld := hs.of_view rfl

theorem State.OutputsHeld.execUpstreamByteCollected (hs : s.OutputsHeld) (byte : Byte) :
    HoldsOutputs (execUpstreamByteCollected byte s) := by
  unfold Machine.execUpstreamByteCollected
  split
  · exact .next hs
  · cases s.link.rx with
    | hunt =>
      simp only []
      split
      · exact .next (hs.setRx _)
      · exact .cannot _
    | header got timer =>
      simp only []
      split
      · exact .cannot _
      · split
        · exact .next (hs.setRx _)
        · exact .next (hs.setRx _)
    | body got timer =>
      simp only []
      split
      · exact .cannot _
      · exact .next (hs.setRx _)

theorem State.OutputsHeld.execUpstreamCharacterStart (hs : s.OutputsHeld) :
    HoldsOutputs (execUpstreamCharacterStart s) := by
  unfold Machine.execUpstreamCharacterStart
  split
  · exact .next hs
  · cases s.link.rx with
    | hunt => exact .next hs
    | header | body => exact .next (hs.setRx _)

theorem State.OutputsHeld.execUpstreamCheckError (hs : s.OutputsHeld) (byte : Byte) (framingFault : Bool) :
    HoldsOutputs (execUpstreamCheckError byte framingFault s) := by
  unfold Machine.execUpstreamCheckError
  split
  · exact .next hs
  · cases s.link.rx with
    | hunt => exact .cannot _
    | header | body =>
      simp only []
      split
      · exact .next hs.checkError
      · exact .cannot _

theorem State.OutputsHeld.execUpstreamInterByteExpiry (hs : s.OutputsHeld) :
    HoldsOutputs (execUpstreamInterByteExpiry s) := by
  unfold Machine.execUpstreamInterByteExpiry
  cases s.link.rx with
  | hunt => exact .cannot _
  | header | body =>
    simp only []
    split
    · exact .next hs.checkError
    · exact .cannot _

theorem State.OutputsHeld.txNext (hs : s.OutputsHeld) : s.txNext.OutputsHeld := by
  unfold State.txNext State.takeNotice
  split
  · split
    · exact hs
    · exact hs.of_view rfl
  · split
    · exact hs.of_view rfl
    · exact hs.of_view rfl

theorem State.OutputsHeld.execUpstreamFrameSent (hs : s.OutputsHeld) :
    HoldsOutputs (execUpstreamFrameSent s) := by
  have hlink (l : LinkPort) : (s.withLink l).OutputsHeld := hs.of_view rfl
  unfold Machine.execUpstreamFrameSent
  cases s.link.tx with
  | idle => exact .cannot _
  | sendingReply =>
    simp only []
    split
    · exact .next s.warmRestart_outputsHeld.wake
    · exact .next (hlink _).txNext
  | sendingNotice frame => exact .next (hlink _).txNext

theorem State.OutputsHeld.execFrameWithUnknownCommand (hs : s.OutputsHeld) (addr cmd tag : Byte)
    (payload : List Byte) : HoldsOutputs (execFrameWithUnknownCommand addr cmd tag payload s) := by
  unfold Machine.execFrameWithUnknownCommand
  split
  · exact .cannot _
  · exact hs.takeFrame _ fun _ _ => .cannot _

theorem State.OutputsHeld.execNoticeResendTimerExpiry (hs : s.OutputsHeld) :
    HoldsOutputs (execNoticeResendTimerExpiry s) := by
  have hnotices (q : NoticeQueue) : (s.withNotices q).OutputsHeld := hs.of_view rfl
  unfold Machine.execNoticeResendTimerExpiry
  split
  · exact .cannot _
  · split
    · exact .next (hnotices _).wake
    · exact .cannot _

/-! ### Requests with more than one effect -/

theorem State.OutputsHeld.execReadCounters (hs : s.OutputsHeld) (tag : Byte) (payload : List Byte) :
    HoldsOutputs (execReadCounters tag payload s) := by
  unfold Machine.execReadCounters
  refine hs.takeFrame _ fun s1 hs1 => ?_
  simp only []
  split
  · exact .next (hs1.answer _ _ _)
  · exact .next (hs1.of_view rfl)

theorem State.OutputsHeld.execRestartWarm (hs : s.OutputsHeld) (tag : Byte) (payload : List Byte) :
    HoldsOutputs (execRestartWarm tag payload s) := by
  unfold Machine.execRestartWarm
  exact hs.takeFrame _ fun _ hs1 => .next (hs1.of_view rfl)

theorem State.OutputsHeld.execExchange (hs : s.OutputsHeld) (addr tag : Byte) (payload : List Byte) :
    HoldsOutputs (execExchange addr tag payload s) := by
  unfold Machine.execExchange
  refine hs.takeFrame _ fun s1 hs1 => ?_
  have hdemand := hs1.takeDemand (nodeFrame .exchange addr tag payload) .exchange (demandOf .exchange payload)
  simp only []
  split
  · exact .next (hdemand.of_view rfl)
  · exact .next hdemand

/-! ### Timers and what an event may find due -/

theorem State.OutputsHeld.execDeadlineExpiry (hs : s.OutputsHeld) (tag : Byte) :
    HoldsOutputs (execDeadlineExpiry tag s) := by
  unfold Machine.execDeadlineExpiry
  split
  · exact .cannot _
  · split
    · exact .done (hs.removeTag _ _ _)
    · exact .cannot _

theorem State.OutputsHeld.execMinPeriodWaitExpiry (hs : s.OutputsHeld) :
    HoldsOutputs (execMinPeriodWaitExpiry s) := by
  unfold Machine.execMinPeriodWaitExpiry
  split
  · refine .done (State.OutputsHeld.of_view ?_ (State.walk_safeView _))
    exact hs.withSched rfl
  · exact .cannot _

/-- SAFE entry, outside SENDING, and an expiry with SAFE on already (R134). -/
theorem State.OutputsHeld.execSilenceTimerExpiry (hs : s.OutputsHeld)
    (hsending : s.line.phase.isSending = false) : HoldsOutputs (execSilenceTimerExpiry s) := by
  unfold Machine.execSilenceTimerExpiry
  split
  · simp only []
    split
    · exact .done (hs.of_view rfl)
    · exact .done (State.enterSafe_outputsHeld hsending)
  · exact .cannot _

/-- A transfer that leaves its backoff was moving, so SAFE is off (R109, R113). -/
theorem State.OutputsHeld.execBackoffExpiry (hs : s.OutputsHeld) : HoldsOutputs (execBackoffExpiry s) := by
  unfold Machine.execBackoffExpiry
  split
  · rename_i backoff hwaiting
    split
    · refine .done (hs.withBulk fun _ hstill => ?_)
      rw [hwaiting] at hstill
      exact hstill
    · exact .cannot _
  · exact .cannot _

theorem State.OutputsHeld.execArbitration (hs : s.OutputsHeld) : HoldsOutputs (execArbitration s) := by
  unfold Machine.execArbitration
  split
  · exact .next hs.arbitrate.follow
  · exact .next hs

theorem State.OutputsHeld.execCommitApplication (hs : s.OutputsHeld) :
    HoldsOutputs (execCommitApplication s) := by
  unfold Machine.execCommitApplication
  split
  · exact .next hs.apply.follow
  · split
    · exact .cannot _
    · exact .next hs

/-! ### The line controller's events -/

/-- The frame that begins when the gap is over is of the order that was held (R29). -/
theorem State.OutputsHeld.execGapTimerExpiry (hs : s.OutputsHeld) : HoldsOutputs (execGapTimerExpiry s) := by
  unfold Machine.execGapTimerExpiry
  split
  · rename_i o gap hphase
    split
    · refine .next (hs.beginSending fun hsafe => ?_)
      have hallowed := hs.phase_allowed hsafe
      rw [hphase] at hallowed
      exact hallowed
    · exact .cannot _
  · exact .cannot _

theorem State.sentPhase_allowedInSafe (s : State) (o : Order) (outputSent : Bool) :
    (s.sentPhase o outputSent).AllowedInSafe := by
  unfold State.sentPhase
  split <;> trivial

theorem State.OutputsHeld.frameSent (hs : s.OutputsHeld) (o : Order) (outputSent : Bool) :
    (s.frameSent o outputSent).OutputsHeld :=
  hs.withLine fun _ _ => s.sentPhase_allowedInSafe o outputSent

theorem State.gapAfterCut_allowedInSafe (h : s.line.phase.AllowedInSafe) :
    s.gapAfterCut.AllowedInSafe := by
  unfold State.gapAfterCut
  split
  · rename_i o hphase
    rw [hphase] at h
    exact h
  · exact h

theorem State.OutputsHeld.execLastCharacterSent (hs : s.OutputsHeld) :
    HoldsOutputs (execLastCharacterSent s) := by
  unfold Machine.execLastCharacterSent
  split
  · split
    · exact .done (hs.frameSent _ _)
    · exact .next (hs.frameSent _ _)
  · split
    · exact .next (hs.withLine fun _ hallowed => State.gapAfterCut_allowedInSafe hallowed)
    · exact .cannot _

theorem LinePhase.AllowedInSafe.charStarted {p : LinePhase} (h : p.AllowedInSafe) :
    p.charStarted.AllowedInSafe := by
  cases p with
  | gapWait o gap => exact h
  | sending o frame output => exact h
  | idle | awaiting | receiving | draining => trivial

theorem State.OutputsHeld.execDownstreamCharacterStart (hs : s.OutputsHeld) :
    HoldsOutputs (execDownstreamCharacterStart s) := by
  unfold Machine.execDownstreamCharacterStart
  split
  · exact .next hs
  · exact .next (hs.withLine fun _ hallowed => hallowed.charStarted)

theorem State.OutputsHeld.charArrived (hs : s.OutputsHeld) : s.charArrived.OutputsHeld := hs.of_view rfl

theorem State.OutputsHeld.stray (hs : s.OutputsHeld) : s.stray.OutputsHeld := hs.of_view rfl

/-- A stray byte restarts the gap of the order that is held, or leaves the phase. -/
theorem State.OutputsHeld.execStrayByte (hs : s.OutputsHeld) (byte : Byte) :
    HoldsOutputs (execStrayByte byte s) := by
  unfold Machine.execStrayByte
  split
  · exact .next hs
  · cases hphase : s.line.phase with
    | idle | sending => exact .next hs.stray
    | gapWait o gap =>
      refine .next (hs.stray.withLine fun _ hallowed => ?_)
      change s.line.phase.AllowedInSafe at hallowed
      rw [hphase] at hallowed
      exact hallowed
    | awaiting o out timer =>
      simp only []
      split
      · exact .cannot _
      · exact .next hs.stray
    | receiving | draining => exact .cannot _

theorem State.OutputsHeld.execReplySyncArrival (hs : s.OutputsHeld) :
    HoldsOutputs (execReplySyncArrival s) := by
  unfold Machine.execReplySyncArrival
  split
  · exact .next hs
  · split
    · split
      · exact .next (hs.charArrived.withLine fun _ _ => trivial)
      · exact .next hs.stray
    · exact .cannot _

theorem State.OutputsHeld.execReplyByteCollected (hs : s.OutputsHeld) (byte : Byte) :
    HoldsOutputs (execReplyByteCollected byte s) := by
  unfold Machine.execReplyByteCollected
  split
  · exact .next hs
  · split
    · split
      · exact .cannot _
      · split
        · exact .next (hs.charArrived.withLine fun _ _ => trivial)
        · exact .next (hs.charArrived.withLine fun _ _ => trivial)
    · exact .next (hs.charArrived.withLine fun _ _ => trivial)
    · exact .cannot _

theorem State.OutputsHeld.execReplyFrameReceived (hs : s.OutputsHeld) (byte : Byte) :
    HoldsOutputs (execReplyFrameReceived byte s) := by
  unfold Machine.execReplyFrameReceived
  split
  · exact .next hs
  · split
    · split
      · exact .done (hs.charArrived.deliver _ _ _)
      · exact .cannot _
    · exact .cannot _

theorem State.OutputsHeld.execReplyTimerExpiry (hs : s.OutputsHeld) :
    HoldsOutputs (execReplyTimerExpiry s) := by
  unfold Machine.execReplyTimerExpiry
  split
  · split
    · exact .done (hs.deliver _ _ _)
    · exact .cannot _
  · exact .cannot _

theorem State.OutputsHeld.execDownstreamInterByteExpiry (hs : s.OutputsHeld) :
    HoldsOutputs (execDownstreamInterByteExpiry s) := by
  unfold Machine.execDownstreamInterByteExpiry
  cases s.line.phase with
  | receiving | draining =>
    simp only []
    split
    · exact .done (hs.deliver _ _ _)
    · exact .cannot _
  | idle | gapWait | sending | awaiting => exact .cannot _

end Events

/-! ### Every command -/

/-- From a state that holds the outputs and is sending no frame, every command goes on to a state that holds
them.  SENDING is left out for SAFE entry alone, which does not stop a frame that is on the line (R29). -/
theorem exec_holdsOutputs {s : State} (hs : s.OutputsHeld) (hsending : s.line.phase.isSending = false)
    (c : Instr) : HoldsOutputs (exec c s) := by
  cases c with
  | powerOnReset upStrap downStrap => exact execPowerOnReset_holdsOutputs upStrap downStrap s
  | resetRelease => exact hs.execResetRelease
  | warmRestartTakesEffect => exact execWarmRestartTakesEffect_holdsOutputs s
  | timebaseTick => exact hs.execTimebaseTick
  | huntByte byte framingFault => exact hs.execHuntByte byte framingFault
  | upstreamByteCollected byte => exact hs.execUpstreamByteCollected byte
  | upstreamCharacterStart => exact hs.execUpstreamCharacterStart
  | upstreamCheckError byte framingFault => exact hs.execUpstreamCheckError byte framingFault
  | upstreamInterByteExpiry => exact hs.execUpstreamInterByteExpiry
  | upstreamFrameSent => exact hs.execUpstreamFrameSent
  | frameWithUnknownCommand addr cmd tag payload => exact hs.execFrameWithUnknownCommand addr cmd tag payload
  | queryStatus tag payload => exact hs.takeFrame _ fun _ h => .next (h.answer _ _ _)
  | queryNode addr tag payload => exact hs.takeFrame _ fun _ h => .next (h.answer _ _ _)
  | readCounters tag payload => exact hs.execReadCounters tag payload
  | restartWarm tag payload => exact hs.execRestartWarm tag payload
  | readInput addr tag payload => exact hs.takeFrame _ fun _ h => .next (h.readInput _)
  | writeOutput addr tag payload => exact hs.takeFrame _ fun _ h => .next (h.takeWrite _)
  | exchange addr tag payload => exact hs.execExchange addr tag payload
  | pass addr tag payload => exact hs.takeFrame _ fun _ h => .next (h.takeDemand _ _ _)
  | probe addr tag payload => exact hs.takeFrame _ fun _ h => .next (h.takeDemand _ _ _)
  | cancel tag payload => exact hs.takeFrame _ fun _ h => .next (h.takeCancel _)
  | loadLine tag payload => exact hs.takeFrame _ fun _ h => .next (h.takeLoad _ _)
  | loadNodes tag payload => exact hs.takeFrame _ fun _ h => .next (h.takeLoad _ _)
  | loadMain tag payload => exact hs.takeFrame _ fun _ h => .next (h.takeLoad _ _)
  | loadInterleave tag payload => exact hs.takeFrame _ fun _ h => .next (h.takeLoad _ _)
  | setLengths tag payload => exact hs.takeFrame _ fun _ h => .next (h.takeLoad _ _)
  | discard tag payload => exact hs.takeFrame _ fun _ h => .next (h.takeLoad _ _)
  | readTable tag payload => exact hs.takeFrame _ fun _ h => .next (h.takeReadTable _)
  | commit tag payload => exact hs.takeFrame _ fun _ h => .next (h.takeCommit _)
  | start tag payload => exact hs.takeFrame _ fun _ h => .next (h.takeStart _)
  | stop tag payload => exact hs.takeFrame _ fun _ h => .next (h.takeStop _)
  | suspendCycle tag payload => exact hs.takeFrame _ fun _ h => .next (h.takeSuspend _)
  | resumeCycle tag payload => exact hs.takeFrame _ fun _ h => .next (h.takeResume _)
  | clearSafe tag payload => exact hs.takeFrame _ fun _ h => .next (h.takeClearSafe _)
  | noticeAck tag payload => exact hs.takeFrame _ fun _ h => .next (h.takeAck _ _)
  | bulkOpen tag payload => exact hs.takeFrame _ fun _ h => .next (h.takeOpen _ _ _)
  | bulkData tag payload => exact hs.takeFrame _ fun _ h _ => h.takeData _ _ _
  | bulkStart tag payload => exact hs.takeFrame _ fun _ h => .next (h.takeBulkStart _)
  | bulkSuspend tag payload => exact hs.takeFrame _ fun _ h => .next (h.takeBulkSuspend _)
  | bulkResume tag payload => exact hs.takeFrame _ fun _ h => .next (h.takeBulkResume _)
  | bulkAbort tag payload => exact hs.takeFrame _ fun _ h => .next (h.takeAbort _)
  | bulkStatus tag payload => exact hs.takeFrame _ fun _ h => .next (h.answer _ _ _)
  | bulkClear tag payload => exact hs.takeFrame _ fun _ h => .next (h.takeClear _)
  | noticeResendTimerExpiry => exact hs.execNoticeResendTimerExpiry
  | silenceTimerExpiry => exact hs.execSilenceTimerExpiry hsending
  | minPeriodWaitExpiry => exact hs.execMinPeriodWaitExpiry
  | deadlineExpiry tag => exact hs.execDeadlineExpiry tag
  | backoffExpiry => exact hs.execBackoffExpiry
  | arbitration => exact hs.execArbitration
  | commitApplication => exact hs.execCommitApplication
  | gapTimerExpiry => exact hs.execGapTimerExpiry
  | lastCharacterSent => exact hs.execLastCharacterSent
  | downstreamCharacterStart => exact hs.execDownstreamCharacterStart
  | strayByte byte => exact hs.execStrayByte byte
  | replySyncArrival => exact hs.execReplySyncArrival
  | replyByteCollected byte => exact hs.execReplyByteCollected byte
  | replyFrameReceived byte => exact hs.execReplyFrameReceived byte
  | replyTimerExpiry => exact hs.execReplyTimerExpiry
  | downstreamInterByteExpiry => exact hs.execDownstreamInterByteExpiry

/-- An allowed request is neither a PASS nor a SEGMENT without the CANCEL flag. -/
theorem Request.allowedInSafe_ne {r : Request} (h : r.allowedInSafe = true) :
    (∀ bytes, r ≠ .pass bytes) ∧ (∀ i last data, r ≠ .segment i last false data) := by
  refine ⟨?_, ?_⟩
  · rintro bytes rfl
    exact absurd h Bool.false_ne_true
  · rintro i last data rfl
    exact absurd h Bool.false_ne_true

end Sys2Proof.Machine

namespace Sys2Proof
open Machine

/-- Settles O50: the safe law outside SENDING holds the outputs, every command keeps them held, and the phase of
a state that holds them says what the frame begun is. -/
theorem safeFramesCarryNoOutputs : Obligations.SafeFramesCarryNoOutputs := by
  intro c s t o frame output hlaw hsending hexec hsafe hphase
  have hheld : t.OutputsHeld := exec_holdsOutputs (.of_safeLaw hlaw hsending) hsending c t hexec
  have hallowed := hheld.phase_allowed hsafe
  rw [hphase] at hallowed
  obtain ⟨hrequest, houtput, hframe⟩ := hallowed
  obtain ⟨hpass, hsegment⟩ := Request.allowedInSafe_ne hrequest
  exact ⟨houtput, hpass, hsegment, hframe⟩

end Sys2Proof
end

section
/-! PROOFS. QUERY_STATUS and READ_COUNTERS (R172, R173). -/

namespace Sys2Proof.Machine

/-! ### The two commands as frames for their owners -/

/-- QUERY_STATUS is answered with the status record. -/
theorem exec_queryStatus (tag : Byte) (payload : List Byte) (s : State) :
    exec (.queryStatus tag payload) s = s.takeFrame "QUERY_STATUS" ⟨0, 0x20, tag, payload⟩
      fun s1 => .next (s1.answer ⟨0, 0x20, tag, payload⟩ .ok s1.statusRecord) := rfl

/-- READ_COUNTERS is answered with the values before the clear. -/
theorem exec_readCounters (tag : Byte) (payload : List Byte) (s : State) :
    exec (.readCounters tag payload) s = s.takeFrame "READ_COUNTERS" ⟨0, 0x22, tag, payload⟩
      fun s1 => .next ((if payload.isEmpty then s1 else s1.clearCounters).answer ⟨0, 0x22, tag, payload⟩ .ok
        s1.counterRecord) := rfl

/-! ### An answer in whose event the counters are cleared -/

/-- No want and no condition of an application reads a counter. -/
theorem State.clearCounters_decided (s : State) : s.clearCounters.decided = s.decided :=
  State.decided_congr rfl rfl rfl rfl rfl

/-- The transmitter takes the reply without counting it, so the counters stay at 0 (R171). -/
theorem State.wake_clearCounters_answer {s : State} (f : UpFrame) (r : Result) (content : List Byte)
    (hsettled : s.txSettled = true) (hreset : s.resetAsserted = false) :
    (s.heard.clearCounters.answer f r content).wake = (s.answered f r content).clearCounters := by
  have hreplies : (s.heard.clearCounters.answer f r content).link.replies ≠ [] :=
    List.append_ne_nil_of_right_ne_nil _ (List.cons_ne_nil _ _)
  exact State.wake_replies hsettled hreset hreset rfl rfl rfl hreplies

/-- An owner may clear the counters in the event of its answer: that makes nothing due, so the event ends with
the reply at the transmitter. -/
theorem State.takeFrame_answers_clearCounters {s : State} {f : UpFrame} {handle : State → Out} {r : Result}
    {content : List Byte} (mnemonic : String) (haccepts : s.accepts f = true) (hsettled : s.txSettled = true)
    (hdecided : s.decided = true) (hhandle : handle s.heard = .next (s.heard.clearCounters.answer f r content)) :
    s.takeFrame mnemonic f handle = .next (s.answered f r content).clearCounters := by
  have hnotDue : (s.answered f r content).clearCounters.decided = true :=
    calc (s.answered f r content).clearCounters.decided
      _ = (s.answered f r content).decided := State.clearCounters_decided _
      _ = s.decided := State.decided_congr rfl rfl rfl rfl rfl
      _ = true := hdecided
  have hclose : (s.heard.clearCounters.answer f r content).close = (s.answered f r content).clearCounters := by
    rw [State.close, State.wake_clearCounters_answer f r content hsettled (State.accepts_resetAsserted haccepts),
      State.follow_of_decided hnotDue]
    exact State.wake_sending (s.answered_busy f r content)
  rw [State.takeFrame_accepts mnemonic handle haccepts, hhandle]
  exact congrArg Host.Outcome.next hclose

end Sys2Proof.Machine

namespace Sys2Proof
open Machine

/-- Settles O9: both commands only answer, out of the state that hearing the frame leaves; the clear comes after
the values are taken and before the reply is at the transmitter, which counts nothing. -/
theorem statusAndCountersAreAnswered : Obligations.StatusAndCountersAreAnswered := by
  refine ⟨?status, ?counters⟩
  case status =>
    intro s tag f haccepts hsettled hdecided
    rw [exec_queryStatus]
    exact State.takeFrame_answers _ haccepts hsettled hdecided rfl
  case counters =>
    intro s tag f g l k record hsettled hdecided
    have hrecord : s.heard.counterRecord = record := List.flatMap_append.symm
    refine ⟨fun haccepts => ?read, fun haccepts => ?clear⟩ <;> rw [exec_readCounters, ← hrecord]
    case read => exact State.takeFrame_answers _ haccepts hsettled hdecided rfl
    case clear => exact State.takeFrame_answers_clearCounters _ haccepts hsettled hdecided rfl

end Sys2Proof
end

section
/-! PROOFS. What a step is made of: the changes of single blocks, and the outcomes, arbitrations, applications and
ends of events that are made of them.  Each law of every step is then a fact about one change. -/

namespace Sys2Proof.Machine

/-! ### The changes -/

/-- A request with this tag can be held: the tag is free, fewer than 8 are outstanding, and a reply slot is left for
its result (R82, R83, R168). -/
structure State.CanHold (s : State) (tag : Byte) : Prop where
  fresh : tag ∉ s.outstanding
  room : s.outstanding.length < maxTags
  slot : s.freeSlots ≠ 0

/-- Another transfer record of the same transfer: its data stay, and it becomes active or starts to move only where
it was so, or, as far as moving goes, where SAFE is off (R100, R107 to R116). -/
structure State.SameTransfer (s : State) (b : Bulk) : Prop where
  buffer : b.buffer = s.bulk.buffer
  declared : b.declared = s.bulk.declared
  filled : b.filled = s.bulk.filled
  node : b.node = s.bulk.node
  active : b.state.active = true → s.bulk.state.active = true
  moving : b.state.moving = true → s.bulk.state.moving = true ∨ s.sched.safe = false

/-- Another shadow whose every offline_threshold is in range, or is that of one of the two copies (R155). -/
def TableStore.ThresholdsFrom (t : TableStore) (shadow : TableSet) : Prop :=
  ∀ n, 1 ≤ n → n ≤ 30 →
    1 ≤ (bankGet shadow.nodes NodeConfig.cleared n).offlineThreshold.toNat ∨
    bankGet shadow.nodes NodeConfig.cleared n = bankGet t.shadow.nodes NodeConfig.cleared n ∨
    bankGet shadow.nodes NodeConfig.cleared n = bankGet t.active.nodes NodeConfig.cleared n

/-- One change of a step, with what holds where the step makes it. -/
inductive Change (s : State) : State → Prop
  /-- the timebase, RESET, the straps and the model's own fields -/
  | own (now : Nat) (asserted : Bool) (up down : BitVec 2) (choices : Nat) (pending : List Instr) :
      Change s { s with
        now := now, resetAsserted := asserted, upStrap := up, downStrap := down, choices := choices
        pending := pending }
  | reset : Change s State.reset
  | warmRestart : Change s s.warmRestart
  | link (l : LinkPort) (hreplies : l.replies.length ≤ s.link.replies.length) : Change s (s.withLink l)
  | queueReply (f : UpFrame) (hslot : s.freeSlots ≠ 0) : Change s (s.queueReply f)
  | accept (o : Order) (hidle : s.line.phase.isIdle = true) (hallowed : o.request.allowedInSafe = true) :
      Change s (s.acceptOrder o)
  | orderHead (c : QueueClass) (hidle : s.line.phase.isIdle = true) (hwant : s.headWant c = true) :
      Change s (s.orderHead c)
  | orderSegment (hidle : s.line.phase.isIdle = true) (hwant : s.segmentWant = true) : Change s s.orderSegment
  | beginSending (o : Order) (gap : Option Nat) (hphase : s.line.phase = .gapWait o gap) :
      Change s (s.beginSending o)
  | line (l : LineCtl) (hdirection : l.direction = s.line.direction)
      (hsending : l.phase.isSending = s.line.phase.isSending)
      (hwithdrawn : s.line.phase.withdrawn = none → l.phase.withdrawn = none) : Change s (s.withLine l)
  | frameSent (o : Order) (outputSent : Bool) : Change s (s.frameSent o outputSent)
  | sched (x : Sched) (hsafe : x.safe = s.sched.safe)
      (hbroadcast : x.safeBroadcast = true → s.sched.safeBroadcast = true) : Change s (s.withSched x)
  | safeOff : Change s (s.withSched { s.sched with safe := false, safeBroadcast := false })
  | safeOn (hbulk : s.bulk.state.moving = false) (hqueue : s.queue.NoPassWant)
      (hline : s.line.phase.withdrawn = none) :
      Change s (s.withSched { s.sched with safe := true, safeBroadcast := true })
  | countdowns (v : Vector NodeRt 30)
      (hrecords : ∀ n, 1 ≤ n → n ≤ 30 → ∃ c, bankGet v NodeRt.reset n = { s.node n with countdown := c }) :
      Change s (s.withNodes v)
  | outcome (n : Nat) (o : LineOutcome) : Change s (s.setNode n ((s.node n).take (s.cfg n) o))
  | imageUpdate (n : Nat) (status : Byte) (block : List Byte)
      (hlength : block.length = (s.cfg n).inputLen.toNat) :
      Change s (s.setImage n ((s.image n).update status block))
  | writeOutput (n : Nat) (data : List Byte) (hlength : data.length = (s.cfg n).outputLen.toNat) :
      Change s (s.writeOutput n data)
  | ages : Change s (s.withImages (tabulate fun n => (s.image n).tick))
  | offer (n : Notice) (hkind : n ≠ .overflow) : Change s (s.offer n)
  | noticeTaken (q : NoticeQueue) (f : InFlight) (htaken : s.noticeTaken = some (q, f)) :
      Change s (s.withNotices q)
  | resendReady (g : InFlight) (hflight : s.notices.inFlight = some g) :
      Change s (s.withNotices { s.notices with inFlight := some { g with resend := none } })
  | noticeRemoved (g : InFlight) (hflight : s.notices.inFlight = some g) :
      Change s (s.withNotices (s.notices.removed g))
  | complete (verdict : Entry → Option (Result × List Byte)) : Change s (s.complete verdict)
  | completeHead (c : QueueClass) (r : Result) (content : List Byte) : Change s (s.completeHead c r content)
  | awaitRetry (c : QueueClass) (e : Entry) (rest : List Entry) (hfifo : s.queue.fifo c = e :: rest)
      (hpass : (e.kind.isPass && s.sched.safe) = false) : Change s (s.setHead c { e with phase := .retryPending })
  | takeRefresh (n : Nat) (urgent : Bool) (t : TagSlot) (hold : s.CanHold t.tag) :
      Change s (s.takeRefresh n urgent t)
  | enqueue (c : QueueClass) (kind : EntryKind) (n : Nat) (t : TagSlot) (hold : s.CanHold t.tag)
      (hkind : kind ≠ .refresh)
      (hpass : kind.isPass = true → s.sched.safe = false ∧ s.bulkActiveFor n = false) :
      Change s (s.enqueue c (newEntry kind n t))
  | removeTag (e : Entry) (tag : Byte) (r : Result) (hentry : s.entryOf tag = some e) :
      Change s (s.removeTag e tag r)
  | transfer (b : Bulk) (hsame : s.SameTransfer b) : Change s (s.withBulk b)
  | opened (n length : Nat) (hlength : length ≤ bufferSize) : Change s (s.withBulk (s.bulk.opened n length))
  | cleared : Change s (s.withBulk s.bulk.cleared)
  | filledWith (offset : Nat) (data : List Byte) (hrefusal : s.bulk.dataRefusal offset data.length = none)
      (hrange : offset + data.length ≤ bufferSize) : Change s (s.withBulk (s.bulk.filledWith offset data))
  | started (hrefusal : s.startRefusal = none) : Change s (s.withBulk s.bulk.started)
  | shadow (t : TableSet) (hpending : s.tables.commitPending = false) (hfrom : s.tables.ThresholdsFrom t) :
      Change s (s.setShadow t)
  | commitPending (hvalid : s.tables.shadow.invalid = none) :
      Change s (s.withTables { s.tables with commitPending := true })
  | applied (hpending : s.tables.commitPending = true) :
      Change s ((s.withTables s.tables.applied).recordsApplied s.tables.active)

/-- Any number of changes, one after the other. -/
def Changes : State → State → Prop := Relation.ReflTransGen Change

/-- A command refused, gone on by changes, or stopped by the fault that no sound transfer record meets (R100). -/
inductive Answers (s : State) : Out → Prop
  | next {t : State} (h : Changes s t) : Answers s (.next t)
  | refused (r : Refusal) : Answers s (.refused r)
  | fault (f : Fault) (h : s.bulk.sound = false) : Answers s (.fault f)

section Rules
variable {s t u : State}

theorem Changes.refl (s : State) : Changes s s := Relation.ReflTransGen.refl

theorem Changes.step (h : Changes s t) (hchange : Change t u) : Changes s u := .tail h hchange

theorem Changes.trans (h : Changes s t) (h' : Changes t u) : Changes s u := Relation.ReflTransGen.trans h h'

/-- A property that no change ends is kept by any number of them. -/
theorem Changes.keeps {P : State → Prop} (hkeeps : ∀ s t, P s → Change s t → P t) (h : Changes s t)
    (hs : P s) : P t := by
  induction h with
  | refl => exact hs
  | tail _ hchange ih => exact hkeeps _ _ ih hchange

/-! ### Changes of the link port and the notices -/

theorem Changes.countChoice (h : Changes s t) : Changes s t.countChoice :=
  h.step (.own t.now t.resetAsserted t.upStrap t.downStrap (t.choices + 1) t.pending)

theorem Changes.takeNotice (h : Changes s t) : Changes s t.takeNotice := by
  unfold State.takeNotice
  split
  · exact h
  · rename_i q f htaken
    exact (h.step (.noticeTaken q f htaken)).step (.link _ (Nat.le_refl _))

theorem Changes.takeReply (h : Changes s t) : Changes s t.takeReply := h.step (.link _ (Nat.le_refl _))

theorem Changes.txNext (h : Changes s t) : Changes s t.txNext := by
  unfold State.txNext
  split
  · exact h.takeNotice
  · split
    · exact h.takeReply
    · exact h.step (.link _ (Nat.le_refl _))

/-- The transmitter's choice (R171). -/
theorem Changes.wake (h : Changes s t) : Changes s t.wake := by
  unfold State.wake
  split
  · exact h
  · split
    · split
      · exact h.countChoice.takeNotice
      · exact h.countChoice.takeReply
    · exact h.txNext

theorem Changes.offerIf (h : Changes s t) (b : Bool) {n : Notice} (hkind : n ≠ .overflow) :
    Changes s (t.offerIf b n) := by
  unfold State.offerIf
  split
  · exact h.step (.offer n hkind)
  · exact h

/-! ### The walk and the scheduler's positions -/

/-- A cycle boundary lowers countdowns and moves the position (R12). -/
theorem Changes.cycleBoundary (h : Changes s t) : Changes s t.cycleBoundary := by
  have hnodes : Changes s (t.withNodes (tabulate fun n => (t.node n).atBoundary)) :=
    h.step (.countdowns _ fun n h1 h30 => by
      rw [bankGet_tabulate _ _ h1 h30]
      unfold NodeRt.atBoundary
      split
      · exact ⟨_, rfl⟩
      · exact ⟨(t.node n).countdown, rfl⟩)
  have hsched := hnodes.step (.sched t.boundarySched rfl id)
  unfold State.cycleBoundary
  simp only []
  split
  · exact hsched.step (.offer _ (by simp))
  · exact hsched

theorem Changes.walkMove (h : Changes s t) : Changes s t.walkMove.1 := by
  unfold State.walkMove
  split
  · split
    · exact h.step (.sched _ rfl id)
    · exact h.step (.sched _ rfl id)
  · simp only []
    split
    · split
      · exact h.step (.sched _ rfl id)
      · exact h.step (.sched _ rfl id)
    · split
      · exact h.cycleBoundary
      · split
        · exact h.step (.sched _ rfl id)
        · exact h.step (.sched _ rfl id)

theorem Changes.walkMoves (k : Nat) (h : Changes s t) : Changes s (walkMoves k t) := by
  induction k generalizing t with
  | zero => exact h
  | succ k ih =>
    simp only [Machine.walkMoves]
    split
    · exact ih h.walkMove
    · exact h.walkMove

theorem Changes.walk (h : Changes s t) : Changes s t.walk := by
  unfold State.walk
  split
  · exact h.walkMoves _
  · exact h

theorem State.passStep_safeBroadcast (s : State) (st : SchedStep) :
    (s.passStep st).safeBroadcast = s.sched.safeBroadcast := by
  unfold State.passStep
  split <;> rfl

theorem Changes.stepFinal (h : Changes s t) (st : SchedStep) : Changes s (t.stepFinal st) :=
  (h.step (.sched { t.passStep st with attached := none } (t.passStep_safe st)
    fun hset => t.passStep_safeBroadcast st ▸ hset)).walk

theorem Changes.dropReady (h : Changes s t) (st : SchedStep) : Changes s (t.dropReady st) :=
  (h.step (.sched { t.passStep st with ready := none } (t.passStep_safe st)
    fun hset => t.passStep_safeBroadcast st ▸ hset)).walk

theorem Changes.scheduleRestart (h : Changes s t) (keepWait : Bool) : Changes s (t.scheduleRestart keepWait) :=
  (h.step (.sched (t.restartSched keepWait) rfl id)).walk

/-! ### Ends of a transfer -/

/-- A transfer that has ended neither moves nor is active. -/
theorem Changes.endTransfer (h : Changes s t) {b : Bulk} (o : BulkOutcome) (hbuffer : b.buffer = t.bulk.buffer)
    (hdeclared : b.declared = t.bulk.declared) (hfilled : b.filled = t.bulk.filled)
    (hnode : b.node = t.bulk.node) : Changes s (t.endTransfer b o) := by
  have hended : Changes s (t.withBulk { b with state := .ended o }) :=
    h.step (.transfer _ ⟨hbuffer, hdeclared, hfilled, hnode, by simp [BulkState.active], by simp [BulkState.moving]⟩)
  exact hended.step (.offer _ (by simp [Bulk.endNotice]))

theorem Changes.bulkOffline (h : Changes s t) (n : Nat) : Changes s (t.bulkOffline n) := by
  unfold State.bulkOffline
  split
  · exact h.endTransfer _ rfl rfl rfl rfl
  · exact h

/-- Another record of the same transfer in the same state. -/
theorem Changes.sameState (h : Changes s t) {b : Bulk} (hbuffer : b.buffer = t.bulk.buffer)
    (hdeclared : b.declared = t.bulk.declared) (hfilled : b.filled = t.bulk.filled)
    (hnode : b.node = t.bulk.node) (hstate : b.state = t.bulk.state) : Changes s (t.withBulk b) :=
  h.step (.transfer b ⟨hbuffer, hdeclared, hfilled, hnode, hstate ▸ id, hstate ▸ .inl⟩)

end Rules

end Sys2Proof.Machine
end

section
/-! PROOFS. Outcomes, arbitrations, applications and the ends of events, as the changes they are made of (R43 to
R49, R89, R107, R121 to R123, R161 to R163). -/

namespace Sys2Proof.Machine

section Outcomes
variable {s t : State}

/-! ### What each block does with an outcome -/

theorem Changes.handOffline (h : Changes s t) (n : Nat) : Changes s (t.handOffline n) :=
  (h.step (.complete _)).bulkOffline n

theorem Changes.nodeTakes (h : Changes s t) (n : Nat) (o : LineOutcome) : Changes s (t.nodeTakes n o) := by
  have hrecord := h.step (.outcome n o)
  have hoffers := (hrecord.offerIf ((t.node n).healthNotice (t.cfg n) o) (n := .health n 0) (by simp)).offerIf
    ((t.node n).attentionNotice o) (n := .attention n) (by simp)
  unfold State.nodeTakes
  simp only []
  split
  · exact hoffers.handOffline n
  · exact hoffers

theorem Changes.imageTakes (h : Changes s t) {n : Nat} (status : Byte) {block : List Byte}
    (hlength : block.length = (t.cfg n).inputLen.toNat) : Changes s (t.imageTakes n status block) :=
  (h.step (.imageUpdate n status block hlength)).offerIf _ (by simp)

theorem State.offerIf_tables (s : State) (b : Bool) (n : Notice) : (s.offerIf b n).tables = s.tables := by
  unfold State.offerIf
  split <;> rfl

theorem State.bulkOffline_tables (s : State) (n : Nat) : (s.bulkOffline n).tables = s.tables := by
  unfold State.bulkOffline
  split <;> rfl

theorem State.nodeTakes_tables (s : State) (n : Nat) (o : LineOutcome) : (s.nodeTakes n o).tables = s.tables := by
  unfold State.nodeTakes
  simp only []
  split
  · rw [State.handOffline, State.bulkOffline_tables]
    exact (State.offerIf_tables _ _ _).trans (State.offerIf_tables _ _ _)
  · exact (State.offerIf_tables _ _ _).trans (State.offerIf_tables _ _ _)

/-- The block of a DATA outcome is as long as the node's input image (R24). -/
def LineOutcome.FitsInput (o : LineOutcome) (cfg : NodeConfig) : Prop :=
  ∀ status block, o = .replied (.data status block) → block.length = cfg.inputLen.toNat

theorem Changes.blocksTake (h : Changes s t) {n : Nat} {o : LineOutcome} (hfits : o.FitsInput (t.cfg n)) :
    Changes s (t.blocksTake n o) := by
  unfold State.blocksTake
  split
  · rename_i status block
    have hlength := hfits status block rfl
    simp only []
    split
    · exact (h.countChoice.imageTakes status hlength).nodeTakes _ _
    · refine (h.countChoice.nodeTakes _ _).imageTakes status ?_
      rw [State.cfg, State.nodeTakes_tables]
      exact hlength
  · exact h.nodeTakes _ _

/-! ### Owners -/

theorem Changes.scheduleTakes (h : Changes s t) (n : Nat) (o : LineOutcome) (entered : Bool) :
    Changes s (t.scheduleTakes n o entered) := by
  unfold State.scheduleTakes
  split
  · exact h.step (.sched _ rfl id)
  · exact h
  · split
    · exact h.step (.sched _ rfl id)
    · exact h.stepFinal _

theorem Changes.demandTakes (h : Changes s t) (c : QueueClass) (outputSent : Bool) (o : LineOutcome)
    (entered : Bool) : Changes s (t.demandTakes c outputSent o entered) := by
  unfold State.demandTakes
  split
  · exact h
  · rename_i e rest hfifo
    split
    · split
      · exact h.step (.completeHead _ _ _)
      · rename_i hpass
        exact h.step (.awaitRetry c e rest hfifo (Bool.eq_false_iff.mpr hpass))
    · exact h.step (.completeHead _ _ _)

/-- A transfer that backs off was moving (R108). -/
theorem Changes.segmentTakes (h : Changes s t) (o : LineOutcome) (index : Nat) (last entered : Bool) :
    Changes s (t.segmentTakes o index last entered) := by
  unfold State.segmentTakes
  simp only []
  split
  · split
    · exact h.endTransfer _ rfl rfl rfl rfl
    · exact h.sameState rfl rfl rfl rfl rfl
  · split
    · exact h.endTransfer _ rfl rfl rfl rfl
    · split
      · rename_i hrunning
        exact h.step (.transfer _ ⟨rfl, rfl, rfl, rfl, fun _ => by rw [hrunning]; rfl,
          fun _ => .inl (by rw [hrunning]; rfl)⟩)
      · exact h.sameState rfl rfl rfl rfl rfl
  · exact h.endTransfer _ rfl rfl rfl rfl
  · exact h.endTransfer _ rfl rfl rfl rfl
  · split
    · exact h.sameState rfl rfl rfl rfl rfl
    · exact h.endTransfer _ rfl rfl rfl rfl
  · exact h
  · exact h

theorem Changes.bulkTakes (h : Changes s t) (req : Request) (o : LineOutcome) (entered : Bool) :
    Changes s (t.bulkTakes req o entered) := by
  unfold State.bulkTakes
  split
  · exact h.sameState rfl rfl rfl rfl rfl
  · split
    · split
      · exact h.segmentTakes _ _ _ _
      · exact h
    · exact h.sameState rfl rfl rfl rfl rfl

theorem Changes.ownerTakes (h : Changes s t) (ord : Order) (outputSent : Bool) (o : LineOutcome)
    (entered : Bool) : Changes s (t.ownerTakes ord outputSent o entered) := by
  unfold State.ownerTakes
  cases ord.owner with
  | schedule => exact h.scheduleTakes _ _ _
  | demand c => exact h.demandTakes _ _ _ _
  | bulk => exact h.bulkTakes _ _ _
  | none => exact h

/-- An outcome is delivered outside SENDING (R26, R36). -/
theorem Changes.deliver (h : Changes s t) {ord : Order} (outputSent : Bool) {o : LineOutcome}
    (hsending : t.line.phase.isSending = false) (hfits : o.FitsInput (t.cfg ord.addr)) :
    Changes s (t.deliver ord outputSent o) := by
  have hidle : Changes s ((t.countLine fun c => o.count c).setPhase .idle) :=
    h.step (.line _ rfl hsending.symm fun _ => rfl)
  exact (hidle.blocksTake hfits).ownerTakes _ _ _ _

end Outcomes

section Arbiter
variable {s t : State}

/-! ### Ordering each want -/

theorem Changes.orderSafe (h : Changes s t) (hidle : t.line.phase.isIdle = true) : Changes s t.orderSafe :=
  (h.step (.sched { t.sched with safeBroadcast := false } rfl (by simp))).step (.accept _ hidle rfl)

theorem Changes.orderNormal (h : Changes s t) (hidle : t.line.phase.isIdle = true)
    (hwant : t.headWant .normal = true) : Changes s t.orderNormal :=
  have hcredit (credit : Nat) : Changes s (t.withSched { t.sched with credit := credit }) :=
    h.step (.sched _ rfl id)
  (hcredit _).step (.orderHead .normal hidle hwant)

theorem Changes.orderCancel (h : Changes s t) (hidle : t.line.phase.isIdle = true) (node index : Nat) :
    Changes s (t.orderCancel node index) :=
  have hbulk : Changes s (t.withBulk { t.bulk with cancel := none, cancelOnLine := true }) :=
    h.sameState rfl rfl rfl rfl rfl
  hbulk.step (.accept _ hidle rfl)

/-- The probe countdown of the step's node is loaded and nothing else (R9, R51). -/
theorem Changes.loadCountdown (h : Changes s t) (st : SchedStep) : Changes s (t.loadCountdown st) := by
  unfold State.loadCountdown
  split
  · refine h.step (.countdowns _ fun n h1 h30 => ?_)
    by_cases hn : st.node = n
    · subst hn
      exact ⟨_, bankGet_bankSet_same _ _ _ h1 h30⟩
    · exact ⟨(t.node n).countdown, bankGet_bankSet_other _ _ _ hn⟩
  · exact h

theorem State.loadCountdown_line (s : State) (st : SchedStep) : (s.loadCountdown st).line = s.line := by
  unfold State.loadCountdown
  split <;> rfl

theorem State.loadCountdown_sched (s : State) (st : SchedStep) : (s.loadCountdown st).sched = s.sched := by
  unfold State.loadCountdown
  split <;> rfl

theorem Changes.orderStep (h : Changes s t) (hidle : t.line.phase.isIdle = true) (st : SchedStep) :
    Changes s (t.orderStep st) := by
  have hsched : Changes s ((t.loadCountdown st).withSched (t.orderedSched st)) :=
    (h.loadCountdown st).step (.sched _ (by rw [State.loadCountdown_sched]; rfl)
      (by rw [State.loadCountdown_sched]; exact id))
  refine hsched.step (.accept _ ?_ (StepKind.request_allowedInSafe _))
  rw [State.withSched_line, State.loadCountdown_line]
  exact hidle

theorem Changes.orderSchedule (h : Changes s t) (hidle : t.line.phase.isIdle = true) :
    Changes s t.orderSchedule := by
  unfold State.orderSchedule
  split
  · exact h.orderStep hidle _
  · rename_i a _ _
    have hretry : Changes s (t.withSched { t.sched with attached := some ⟨a.step, a.attempts + 1, false⟩ }) :=
      h.step (.sched _ rfl id)
    exact hretry.step (.accept _ hidle (StepKind.request_allowedInSafe _))
  · exact h

/-! ### One arbitration -/

theorem Changes.arbitrateLow (h : Changes s t) (hidle : t.line.phase.isIdle = true) :
    Changes s t.arbitrateLow.1 := by
  unfold State.arbitrateLow
  split
  · rename_i hsegment
    exact h.step (.orderSegment hidle (Bool.and_eq_true_iff.mp hsegment).1)
  · split
    · rename_i hnormal
      exact h.orderNormal hidle (Bool.and_eq_true_iff.mp hnormal).1
    · exact h

theorem Changes.arbitrateFive (h : Changes s t) (hidle : t.line.phase.isIdle = true) :
    Changes s t.arbitrateFive.1 := by
  unfold State.arbitrateFive
  split
  · exact h.orderSafe hidle
  · split
    · rename_i hurgent
      exact h.step (.orderHead .urgent hidle hurgent)
    · split
      · split
        · split
          · exact h.orderCancel hidle _ _
          · have hdropped : Changes s (t.withBulk { t.bulk with cancel := none }) :=
              h.sameState rfl rfl rfl rfl rfl
            exact hdropped.arbitrateLow hidle
        · exact h.arbitrateLow hidle
      · exact h.arbitrateLow hidle

theorem Changes.dropSchedule (h : Changes s t) : Changes s t.dropSchedule := by
  unfold State.dropSchedule
  split
  · exact h.dropReady _
  · exact h.stepFinal _
  · exact h

theorem State.dropSchedule_line (s : State) : s.dropSchedule.line = s.line := by
  unfold State.dropSchedule
  split
  · rw [State.dropReady, State.walk_frame]
    rfl
  · rw [State.stepFinal, State.walk_frame]
    rfl
  · rfl

/-- Where places 1 to 5 order nothing they leave the line alone. -/
theorem State.arbitrateFive_line {s : State} (h : s.arbitrateFive.2 = false) :
    s.arbitrateFive.1.line = s.line := by
  rcases s.arbitrateFive_cases with ⟨h1, -⟩ | ⟨-, h2 | h2, -⟩
  · rw [h] at h1
    cases h1
  · rw [h2]
  · rw [h2]
    rfl

theorem Changes.arbitrate (h : Changes s t) (hidle : t.line.phase.isIdle = true) : Changes s t.arbitrate := by
  have hfive := h.arbitrateFive hidle
  unfold State.arbitrate
  simp only []
  split
  · exact hfive
  · rename_i hnone
    have hidle1 : t.arbitrateFive.1.line.phase.isIdle = true := by
      rw [State.arbitrateFive_line (Bool.eq_false_iff.mpr hnone)]
      exact hidle
    split
    · exact hfive
    · split
      · exact hfive.orderSchedule hidle1
      · have hidle2 : t.arbitrateFive.1.dropSchedule.line.phase.isIdle = true := by
          rw [State.dropSchedule_line]
          exact hidle1
        split
        · exact hfive.dropSchedule.orderSchedule hidle2
        · exact hfive.dropSchedule.arbitrateFive hidle2

end Arbiter

section EventEnd
variable {s t : State}

/-! ### The application of a pending commit -/

theorem Changes.bulkApplied (h : Changes s t) (old : TableSet) : Changes s (t.bulkApplied old) := by
  unfold State.bulkApplied
  simp only []
  split
  · exact h.endTransfer _ rfl rfl rfl rfl
  · exact h.sameState rfl rfl rfl rfl rfl

theorem Changes.applicationOffers (h : Changes s t) (old : TableSet) :
    Changes s (t.applicationOffers old) := by
  have hkind (generation : Byte) : Notice.commitApplied generation ≠ .overflow := by simp
  unfold State.applicationOffers
  simp only []
  split
  · split
    · exact (h.countChoice.bulkApplied old).step (.offer _ (hkind _))
    · exact (h.countChoice.step (.offer _ (hkind _))).bulkApplied old
  · exact (h.step (.offer _ (hkind _))).bulkApplied old

theorem Changes.silenceApplied (h : Changes s t) : Changes s t.silenceApplied := h.step (.link _ (Nat.le_refl _))

theorem Changes.apply (h : Changes s t) (hpending : t.tables.commitPending = true) : Changes s t.apply := by
  have hrecords := h.step (.applied hpending)
  unfold State.apply
  exact ((hrecords.step (.complete _)).applicationOffers _).silenceApplied.scheduleRestart true

/-! ### The end of an event -/

theorem State.applicationDue_pending (h : s.applicationDue = true) : s.tables.commitPending = true := by
  simp only [State.applicationDue, Bool.and_eq_true] at h
  obtain ⟨⟨hpending, -⟩, -⟩ := h
  exact hpending

theorem State.arbitrationDue_idle (h : s.arbitrationDue = true) : s.line.phase.isIdle = true :=
  (Bool.and_eq_true_iff.mp h).1

theorem Changes.turn (h : Changes s t) : Changes s t.turn := by
  unfold State.turn
  split
  · rename_i hboth
    obtain ⟨happly, harbitrate⟩ := Bool.and_eq_true_iff.mp hboth
    split
    · exact h.countChoice.apply (State.applicationDue_pending happly)
    · exact h.countChoice.arbitrate (State.arbitrationDue_idle harbitrate)
  · split
    · rename_i happly
      exact h.apply (State.applicationDue_pending happly)
    · split
      · rename_i harbitrate
        exact h.arbitrate (State.arbitrationDue_idle harbitrate)
      · exact h

theorem Changes.follow (h : Changes s t) : Changes s t.follow := h.turn.turn.turn.wake

theorem Changes.close (h : Changes s t) : Changes s t.close := h.wake.follow

/-! ### Answers -/

theorem Answers.cannot (mnemonic : String) : Answers s (cannot mnemonic) := .refused _

theorem Answers.done (h : Changes s t) : Answers s (done t) := .next h.close

theorem Answers.closeOut {out : Out} (hout : Answers s out) : Answers s (closeOut out) := by
  cases hout with
  | next h => exact .done h
  | refused r => exact .refused r
  | fault f h => exact .fault f h

/-- What a frame's owner may build on: the frame is counted, a reply slot is left, the dispatch does not refuse it
and its tag is free (R83, R167 to R169). -/
structure State.Handed (s t : State) (f : UpFrame) : Prop where
  changes : Changes s t
  bulk : t.bulk = s.bulk
  slot : t.freeSlots ≠ 0
  dispatched : (dispatchRefusal true f.addr f.cmd f.payload).isNone = true
  fresh : f.tag ∉ t.outstanding

theorem State.Handed.answer {f : UpFrame} (h : s.Handed t f) (r : Result) (content : List Byte) :
    Changes s (t.answer f r content) := h.changes.step (.queueReply _ h.slot)

/-- A frame is made of changes where its owner's part is (R167 to R169). -/
theorem Answers.takeFrame {f : UpFrame} {handle : State → Out} (mnemonic : String)
    (hhandle : ∀ t : State, s.Handed t f → Answers s (handle t)) :
    Answers s (s.takeFrame mnemonic f handle) := by
  have hcounted : Changes s s.frameCounted := (Changes.refl s).step (.link _ (Nat.le_refl _))
  unfold State.takeFrame
  split
  · exact .next (Changes.refl s)
  · split
    · exact .cannot _
    · simp only []
      split
      · exact .next (hcounted.step (.link _ (Nat.le_refl _)))
      · rename_i hslot
        simp only [Bool.or_eq_true, beq_iff_eq, not_or] at hslot
        obtain ⟨-, hslot⟩ := hslot
        split
        · exact .done (hcounted.countChoice.step (.queueReply _ hslot))
        · rename_i hdispatch
          split
          · exact .done (hcounted.step (.queueReply _ hslot))
          · rename_i hfresh
            refine .closeOut (hhandle _ ⟨hcounted, rfl, hslot, ?_, by simpa using hfresh⟩)
            rw [dispatchRefusal_none _ true (Option.isNone_iff_eq_none.mpr hdispatch)]
            rfl

end EventEnd

end Sys2Proof.Machine
end

section
/-! PROOFS. The commands' own parts, as the changes they are made of: requests, tables, run states, bulk commands
and SAFE entry. -/

namespace Sys2Proof.Machine

section Requests
variable {s t u : State}

/-! ### Reply slots and tags -/

/-- The free slots depend on the queued replies and the request queue alone (R168). -/
theorem State.freeSlots_congr (hlink : u.link.replies = t.link.replies) (hqueue : u.queue = t.queue) :
    u.freeSlots = t.freeSlots := by
  simp only [State.freeSlots, State.outstanding, hlink, hqueue]

/-- An owner answers after changes that leave replies and requests alone. -/
theorem State.Handed.answerAfter {f : UpFrame} (h : s.Handed t f) (hu : Changes s u)
    (hlink : u.link.replies = t.link.replies) (hqueue : u.queue = t.queue) (r : Result) (content : List Byte) :
    Changes s (u.answer f r content) :=
  hu.step (.queueReply _ (by rw [State.freeSlots_congr hlink hqueue]; exact h.slot))

/-- The tags of a class without one of them. -/
theorem flatMap_tagList_dropTag (tag : Byte) (l : List Entry) :
    (l.filterMap (Entry.dropTag tag)).flatMap Entry.tagList = (l.flatMap Entry.tagList).filter (· != tag) := by
  induction l with
  | nil => rfl
  | cons e l ih =>
    have htags : (e.tags.filter fun t => t.tag != tag).map (·.tag) = e.tagList.filter (· != tag) := by
      simp [Entry.tagList, List.filter_map, Function.comp_def]
    rw [List.flatMap_cons, List.filter_append, ← ih, ← htags, List.filterMap_cons]
    cases hempty : (e.tags.filter fun t => t.tag != tag).isEmpty with
    | true => simp [Entry.dropTag, List.isEmpty_iff.mp hempty]
    | false =>
      simp only [Entry.dropTag, hempty, Bool.false_eq_true, if_false, List.flatMap_cons]
      rfl

/-- The outstanding tags once a tag is removed (R83, R93). -/
theorem State.outstanding_removeTag (s : State) (e : Entry) (tag : Byte) (r : Result) :
    (s.removeTag e tag r).outstanding = s.outstanding.filter (· != tag) := by
  change (s.queue.dropTag tag).entries.flatMap Entry.tagList = _
  simp only [ReqQueue.entries, ReqQueue.dropTag, List.flatMap_append, flatMap_tagList_dropTag, State.outstanding,
    List.filter_append]

theorem State.mem_outstanding_of_entryOf {e : Entry} {tag : Byte} (h : s.entryOf tag = some e) :
    tag ∈ s.outstanding := by
  by_contra hnot
  rw [State.entryOf_eq_none hnot] at h
  cases h

/-- A list without a member that it has is shorter. -/
theorem length_filter_bne_lt {l : List Byte} {tag : Byte} (h : tag ∈ l) :
    (l.filter (· != tag)).length < l.length :=
  List.length_filter_lt_length_iff_exists.mpr ⟨tag, h, by simp⟩

theorem State.length_outstanding_removeTag_lt {e : Entry} {tag : Byte} (r : Result)
    (h : s.entryOf tag = some e) : (s.removeTag e tag r).outstanding.length < s.outstanding.length := by
  rw [State.outstanding_removeTag]
  exact length_filter_bne_lt (State.mem_outstanding_of_entryOf h)

/-- A removed tag gives its slot to its reply (R168). -/
theorem State.freeSlots_removeTag {e : Entry} {tag : Byte} (r : Result) (h : s.entryOf tag = some e)
    (hslot : s.freeSlots ≠ 0) : (s.removeTag e tag r).freeSlots ≠ 0 := by
  have hlt := State.length_outstanding_removeTag_lt r h
  have hreplies : (s.removeTag e tag r).link.replies.length = s.link.replies.length + 1 := by
    simp [State.removeTag, State.queueReply]
  simp only [State.freeSlots, replySlots] at hslot ⊢
  omega

/-! ### Requests that join the queue or leave it (R84, R87, R93, R94) -/

theorem State.Handed.readInput {f : UpFrame} (h : s.Handed t f) : Changes s (t.readInput f) := by
  unfold State.readInput
  simp only []
  split
  · exact h.answer _ _
  · split
    · exact h.answer _ _
    · split
      · exact h.answer _ _
      · split
        · exact h.answer _ _
        · split
          · exact h.answer _ _
          · rename_i hroom
            exact h.changes.step (.takeRefresh _ _ _ ⟨h.fresh, Nat.lt_of_not_le hroom, h.slot⟩)

theorem State.Handed.takeWrite {f : UpFrame} (h : s.Handed t f) : Changes s (t.takeWrite f) := by
  unfold State.takeWrite
  simp only []
  split
  · exact h.answer _ _
  · split
    · exact h.answer _ _
    · split
      · exact h.answer _ _
      · split
        · exact h.answer _ _
        · rename_i hlength
          exact h.answerAfter (h.changes.step (.writeOutput _ _ (not_not.mp hlength))) rfl rfl _ _

/-- What the refusals of R84 leave of an accepted request. -/
theorem State.demandRefusal_none {kind : EntryKind} {n : Nat} {d : DemandFields}
    (h : s.demandRefusal kind n d = none) :
    (kind.isPass = true → s.sched.safe = false ∧ s.bulkActiveFor n = false) ∧
    s.outstanding.length < maxTags ∧
    (kind = .exchange → d.hasData = true → d.rest.length = (s.cfg n).outputLen.toNat) := by
  unfold State.demandRefusal at h
  simp only [] at h
  split_ifs at h with _ _ _ hlength hsafe hbulk hroom
  refine ⟨fun hpass => ?_, Nat.lt_of_not_le hroom, fun hkind hdata => ?_⟩
  · simpa [hpass] using And.intro hsafe hbulk
  · simpa [hkind, hdata] using hlength

theorem State.Handed.takeDemand {f : UpFrame} (h : s.Handed t f) {kind : EntryKind} (hkind : kind ≠ .refresh)
    (d : DemandFields) : Changes s (t.takeDemand f kind d) := by
  unfold State.takeDemand
  split
  · exact h.answer _ _
  · rename_i hrefusal
    obtain ⟨hpass, hroom, -⟩ := State.demandRefusal_none hrefusal
    exact h.changes.step (.enqueue _ _ _ _ ⟨h.fresh, hroom, h.slot⟩ hkind hpass)

theorem State.Handed.takeCancel {f : UpFrame} (h : s.Handed t f) : Changes s (t.takeCancel f) := by
  unfold State.takeCancel
  simp only []
  split
  · exact h.answer _ _
  · rename_i e hentry
    split
    · exact (h.changes.step (.removeTag e _ .cancelled hentry)).step
        (.queueReply _ (State.freeSlots_removeTag _ hentry h.slot))
    · exact h.answer _ _

/-! ### Tables, run states and notices -/

theorem State.Handed.takeLoad {f : UpFrame} (h : s.Handed t f) {load : TableSet → Option TableSet}
    (hload : ∀ shadow, load t.tables.shadow = some shadow → t.tables.ThresholdsFrom shadow) :
    Changes s (t.takeLoad f load) := by
  unfold State.takeLoad
  split
  · exact h.answer _ _
  · rename_i hpending
    split
    · exact h.answer _ _
    · rename_i shadow hshadow
      exact h.answerAfter (h.changes.step (.shadow _ (Bool.eq_false_iff.mpr hpending) (hload shadow hshadow)))
        rfl rfl _ _

/-- A load that leaves the node records of the shadow alone. -/
theorem TableStore.ThresholdsFrom.of_nodes {t : TableStore} {shadow : TableSet}
    (h : shadow.nodes = t.shadow.nodes) : t.ThresholdsFrom shadow :=
  fun n _ _ => .inr (.inl (by rw [h]))

theorem loadLine_nodes {payload : List Byte} {old new : TableSet} (h : loadLine payload old = some new) :
    new.nodes = old.nodes := by
  obtain ⟨p, -, rfl⟩ := Option.map_eq_some_iff.mp h
  rfl

theorem loadMain_nodes {payload : List Byte} {old new : TableSet} (h : loadMain payload old = some new) :
    new.nodes = old.nodes := by
  unfold loadMain at h
  split at h
  · simp only [] at h
    split at h
    · obtain ⟨p, -, rfl⟩ := Option.map_eq_some_iff.mp h
      rfl
    · cases h
  · cases h

theorem loadInterleave_nodes {payload : List Byte} {old new : TableSet}
    (h : loadInterleave payload old = some new) : new.nodes = old.nodes := by
  unfold loadInterleave at h
  split at h
  · simp only [] at h
    split at h
    · obtain ⟨p, -, rfl⟩ := Option.map_eq_some_iff.mp h
      rfl
    · cases h
  · cases h

theorem setLengths_nodes {payload : List Byte} {old new : TableSet} (h : setLengths payload old = some new) :
    new.nodes = old.nodes := by
  unfold setLengths at h
  split at h
  · split at h
    · cases h
      rfl
    · cases h
  · cases h

/-- Every record read from a payload was read from some of its bytes. -/
theorem exists_ofBytes_of_mem_readRecords {α : Type} {ofBytes : List Byte → Option α} {size : Nat} {k : Nat}
    {bytes : List Byte} {rs : List α} (h : readRecords ofBytes size k bytes = some rs) {r : α} (hr : r ∈ rs) :
    ∃ record, ofBytes record = some r := by
  induction k generalizing bytes rs with
  | zero =>
    simp only [readRecords, Option.some.injEq] at h
    subst h
    cases hr
  | succ k ih =>
    simp only [readRecords] at h
    split at h
    · rename_i r0 rs0 hr0 hrs0
      cases h
      rcases List.mem_cons.mp hr with rfl | hr
      · exact ⟨_, hr0⟩
      · exact ih hrs0 hr
    · cases h

/-- A record of a vector after a run is written is one of the run or was there. -/
theorem getElem?_writeRecords_cases {α : Type} {n : Nat} (rs : List α) (v : Vector α n) (i k : Nat) :
    (writeRecords v i rs)[k]? = v[k]? ∨ ∃ r ∈ rs, (writeRecords v i rs)[k]? = some r := by
  induction rs generalizing v i with
  | nil => exact .inl rfl
  | cons r rs ih =>
    rcases ih (v.setIfInBounds i r) (i + 1) with h | ⟨x, hx, h⟩
    · simp only [writeRecords, h, Vector.getElem?_setIfInBounds]
      split
      · split
        · exact .inr ⟨r, by simp, rfl⟩
        · rename_i hik hbound
          exact .inl (by rw [eq_comm, Vector.getElem?_eq_none_iff]; omega)
      · exact .inl rfl
    · exact .inr ⟨x, by simp [hx], h⟩

theorem NodeConfig.ofBytes_threshold {bytes : List Byte} {c : NodeConfig} (h : NodeConfig.ofBytes bytes = some c) :
    1 ≤ c.offlineThreshold.toNat := by
  unfold NodeConfig.ofBytes at h
  split at h
  · split at h
    · cases h
    · split at h
      · rename_i hrange
        cases h
        simp only [Bool.and_eq_true, decide_eq_true_eq] at hrange
        obtain ⟨⟨⟨⟨-, hthreshold⟩, -⟩, -⟩, -⟩ := hrange
        exact hthreshold
      · cases h
  · cases h

/-- The node records that LOAD_NODES writes are in range (R156). -/
theorem loadNodes_thresholds {payload : List Byte} {t : TableStore} {new : TableSet}
    (h : loadNodes payload t.shadow = some new) : t.ThresholdsFrom new := by
  unfold loadNodes at h
  split at h
  · simp only [] at h
    split at h
    · obtain ⟨rs, hrs, rfl⟩ := Option.map_eq_some_iff.mp h
      intro n h1 h30
      obtain ⟨k, rfl⟩ : ∃ k, n = k + 1 := ⟨n - 1, by omega⟩
      simp only [bankGet]
      rcases getElem?_writeRecords_cases rs t.shadow.nodes _ k with hold | ⟨r, hr, hnew⟩
      · exact .inr (.inl (by rw [hold]))
      · obtain ⟨record, hrecord⟩ := exists_ofBytes_of_mem_readRecords hrs hr
        exact .inl (by rw [hnew]; exact NodeConfig.ofBytes_threshold hrecord)
    · cases h
  · cases h

theorem State.Handed.takeReadTable {f : UpFrame} (h : s.Handed t f) : Changes s (t.takeReadTable f) := by
  unfold State.takeReadTable
  split
  · split
    · exact h.answer _ _
    · exact h.answer _ _
  · exact h.answer _ _

theorem State.Handed.takeCommit {f : UpFrame} (h : s.Handed t f) : Changes s (t.takeCommit f) := by
  unfold State.takeCommit
  split
  · exact h.answer _ _
  · split
    · exact h.answer _ _
    · rename_i hvalid
      exact h.answerAfter (h.changes.step (.commitPending hvalid)) rfl rfl _ _

/-- The walk queues no reply and leaves the requests alone. -/
theorem State.Handed.answerAfterWalk {f : UpFrame} (h : s.Handed t f) (hu : Changes s u)
    (hlink : u.link.replies = t.link.replies) (hqueue : u.queue = t.queue) (r : Result) (content : List Byte) :
    Changes s (u.walk.answer f r content) :=
  h.answerAfter hu.walk (by rw [State.walk_frame]; exact hlink) (by rw [State.walk_frame]; exact hqueue) _ _

theorem State.Handed.takeStart {f : UpFrame} (h : s.Handed t f) : Changes s (t.takeStart f) := by
  have hrunning : Changes s (t.setRun .running) := h.changes.step (.sched _ rfl id)
  unfold State.takeStart
  split
  · exact h.answer _ _
  · split
    · exact h.answer _ _
    · exact h.answerAfterWalk hrunning rfl rfl _ _

theorem State.Handed.takeStop {f : UpFrame} (h : s.Handed t f) : Changes s (t.takeStop f) := by
  have hstopped : Changes s (t.setRun .stopped) := h.changes.step (.sched _ rfl id)
  have hrestart : Changes s ((t.setRun .stopped).withSched ((t.setRun .stopped).restartSched false)) :=
    hstopped.step (.sched _ rfl id)
  unfold State.takeStop
  split
  · exact h.answer _ _
  · exact h.answerAfterWalk hrestart rfl rfl _ _

theorem State.Handed.takeSuspend {f : UpFrame} (h : s.Handed t f) : Changes s (t.takeSuspend f) := by
  unfold State.takeSuspend
  split
  · exact h.answerAfter (h.changes.step (.sched t.sched.suspend rfl id)) rfl rfl _ _
  · exact h.answer _ _

theorem State.Handed.takeResume {f : UpFrame} (h : s.Handed t f) : Changes s (t.takeResume f) := by
  have hrunning : Changes s (t.setRun .running) := h.changes.step (.sched _ rfl id)
  unfold State.takeResume
  split
  · exact h.answerAfterWalk hrunning rfl rfl _ _
  · exact h.answer _ _

theorem State.Handed.takeClearSafe {f : UpFrame} (h : s.Handed t f) : Changes s (t.takeClearSafe f) := by
  unfold State.takeClearSafe
  split
  · exact h.answerAfter (h.changes.step .safeOff) rfl rfl _ _
  · exact h.answer _ _

theorem State.Handed.takeAck {f : UpFrame} (h : s.Handed t f) (sequence : Byte) :
    Changes s (t.takeAck f sequence) := by
  unfold State.takeAck
  split
  · exact h.answer _ _
  · rename_i g hflight
    split
    · exact h.answerAfter (h.changes.step (.noticeRemoved g hflight)) rfl rfl _ _
    · exact h.answer _ _

end Requests

section BulkCommands
variable {s t : State}

/-! ### The bulk commands (R102 to R104, R111, R112, R114, R118) -/

/-- The length of a BULK_OPEN that passes the dispatch is at most 512 (R177). -/
theorem openFields_length_le {payload : List Byte}
    (h : (dispatchRefusal true 0 Command.bulkOpen.code payload).isNone = true) :
    (openFields payload).2 ≤ bufferSize := by
  unfold openFields
  split
  · rename_i node hi lo
    by_contra hlong
    have hbad : Command.valueBad .bulkOpen [node, hi, lo] = true := by
      have : 512 < (half hi lo).toNat := Nat.lt_of_not_le hlong
      simp [Command.valueBad, this]
    have hcommand : Command.ofCode Command.bulkOpen.code = some .bulkOpen := by decide
    have haddress : addressRefusal 0 Command.bulkOpen.code = none := by decide
    rw [dispatchRefusal, haddress] at h
    simp [payloadRefusal, hcommand, Command.sizeOk, Command.fieldRefusal, Command.optionBad, Command.countBad,
      hbad] at h
  · exact Nat.zero_le _

theorem State.Handed.takeOpen {f : UpFrame} (h : s.Handed t f) (node : Nat) {length : Nat}
    (hlength : length ≤ bufferSize) : Changes s (t.takeOpen f node length) := by
  unfold State.takeOpen
  split
  · exact h.answer _ _
  · split
    · exact h.answer _ _
    · exact h.answerAfter (h.changes.step (.opened node length hlength)) rfl rfl _ _

theorem Bulk.dataRefusal_none {b : Bulk} {offset count : Nat} (h : b.dataRefusal offset count = none) :
    b.state = .filling ∧ offset = b.filled ∧ b.filled + count ≤ b.declared.getD 0 := by
  unfold Bulk.dataRefusal at h
  split_ifs at h with hstate hoffset hlength
  exact ⟨not_not.mp hstate, not_not.mp hoffset, Nat.le_of_not_lt hlength⟩

/-- The canonical form of the buffer, and the order of filled count, declared length and 512 (R100). -/
theorem Bulk.sound_iff (b : Bulk) :
    b.sound = true ↔ b.buffer.wf = true ∧ b.filled ≤ b.declared.getD 0 ∧ b.declared.getD 0 ≤ bufferSize := by
  unfold Bulk.sound
  cases b.declared with
  | none => simp
  | some n => simp

/-- Data accepted in a sound record lie within the buffer, so only an unsound one faults (R100, R103). -/
theorem State.Handed.takeData {f : UpFrame} (h : s.Handed t f) (offset : Nat) (data : List Byte) :
    Answers s (t.takeData f offset data) := by
  unfold State.takeData
  split
  · exact .next (h.answer _ _)
  · rename_i hrefusal
    split
    · rename_i hbeyond
      refine .fault _ (Bool.eq_false_iff.mpr fun hsound => ?_)
      rw [← h.bulk] at hsound
      obtain ⟨-, -, hdeclared⟩ := (Bulk.sound_iff _).mp hsound
      obtain ⟨-, hoffset, hcount⟩ := Bulk.dataRefusal_none hrefusal
      omega
    · rename_i hwithin
      exact .next (h.answerAfter (h.changes.step (.filledWith offset data hrefusal (Nat.le_of_not_lt hwithin)))
        rfl rfl _ _)

theorem State.Handed.takeBulkStart {f : UpFrame} (h : s.Handed t f) : Changes s (t.takeBulkStart f) := by
  unfold State.takeBulkStart
  split
  · exact h.answer _ _
  · rename_i hrefusal
    exact h.answerAfter (h.changes.step (.started hrefusal)) rfl rfl _ _

theorem State.Handed.takeBulkSuspend {f : UpFrame} (h : s.Handed t f) : Changes s (t.takeBulkSuspend f) := by
  have hsuspended (hactive : t.bulk.state.active = true) :
      Changes s (t.withBulk { t.bulk with state := .suspended .user }) :=
    h.changes.step (.transfer _ ⟨rfl, rfl, rfl, rfl, fun _ => hactive, by simp [BulkState.moving]⟩)
  unfold State.takeBulkSuspend
  split
  · rename_i hrunning
    exact h.answerAfter (hsuspended (by rw [hrunning]; rfl)) rfl rfl _ _
  · rename_i hwaiting
    exact h.answerAfter (hsuspended (by rw [hwaiting]; rfl)) rfl rfl _ _
  · exact h.answer _ _

theorem State.Handed.takeBulkResume {f : UpFrame} (h : s.Handed t f) : Changes s (t.takeBulkResume f) := by
  unfold State.takeBulkResume
  split
  · rename_i cause hsuspended
    split
    · exact h.answer _ _
    · rename_i hsafe
      have hrunning : Changes s (t.withBulk { t.bulk with state := .running }) :=
        h.changes.step (.transfer _ ⟨rfl, rfl, rfl, rfl, fun _ => by rw [hsuspended]; rfl,
          fun _ => .inr (Bool.eq_false_iff.mpr hsafe)⟩)
      exact h.answerAfter hrunning rfl rfl _ _
  · exact h.answer _ _

theorem State.Handed.takeAbort {f : UpFrame} (h : s.Handed t f) : Changes s (t.takeAbort f) := by
  have haborted : Changes s (t.withBulk { t.bulk with state := .ended .aborted }) :=
    h.changes.step (.transfer _ ⟨rfl, rfl, rfl, rfl, by simp [BulkState.active], by simp [BulkState.moving]⟩)
  have hended : Changes s (t.endTransfer
      { t.bulk with segPhase := t.bulk.segPhase.aborted, cancel := t.abortCancel } .aborted) :=
    h.changes.endTransfer _ rfl rfl rfl rfl
  unfold State.takeAbort
  cases t.bulk.state with
  | filling => exact h.answerAfter haborted rfl rfl _ _
  | running | waiting | suspended => exact h.answerAfter hended rfl rfl _ _
  | empty | ended => exact h.answer _ _

theorem State.Handed.takeClear {f : UpFrame} (h : s.Handed t f) : Changes s (t.takeClear f) := by
  unfold State.takeClear
  cases t.bulk.state with
  | filling | ended => exact h.answerAfter (h.changes.step .cleared) rfl rfl _ _
  | empty | running | waiting | suspended => exact h.answer _ _

/-! ### SAFE entry (R29, R96, R113, R135) -/

/-- The line controller's part of SAFE entry leaves no order to withdraw (R29). -/
theorem State.withdraw_withdrawn (s : State) : s.withdraw.line.phase.withdrawn = none := by
  unfold State.withdraw
  split
  · rfl
  · rename_i hkept
    simpa using hkept

theorem LinePhase.isSending_of_withdrawn {p : LinePhase} (h : p.withdrawn.isSome = true) : p.isSending = false := by
  cases p with
  | gapWait => rfl
  | idle | sending | awaiting | receiving | draining => simp [LinePhase.withdrawn] at h

theorem Changes.withdraw (h : Changes s t) : Changes s t.withdraw := by
  unfold State.withdraw
  split
  · rename_i hwithdrawn
    exact h.step (.line _ rfl (LinePhase.isSending_of_withdrawn hwithdrawn).symm fun _ => rfl)
  · exact h

/-- The bulk unit's part of SAFE entry: a moving transfer is suspended, and its segment withdrawn or not. -/
theorem State.sameTransfer_safeEntered (s : State) (withdrawn : Bool) :
    s.SameTransfer (if withdrawn then s.bulk.segmentWithdrawn.safeEntered else s.bulk.safeEntered) := by
  have entered (b : Bulk) (hbuffer : b.buffer = s.bulk.buffer) (hdeclared : b.declared = s.bulk.declared)
      (hfilled : b.filled = s.bulk.filled) (hnode : b.node = s.bulk.node) (hstate : b.state = s.bulk.state) :
      s.SameTransfer b.safeEntered := by
    unfold Bulk.safeEntered
    split
    · rename_i hrunning
      exact ⟨hbuffer, hdeclared, hfilled, hnode, fun _ => by rw [← hstate, hrunning]; rfl,
        fun hmoving => by cases hmoving⟩
    · rename_i hwaiting
      exact ⟨hbuffer, hdeclared, hfilled, hnode, fun _ => by rw [← hstate, hwaiting]; rfl,
        fun hmoving => by cases hmoving⟩
    · exact ⟨hbuffer, hdeclared, hfilled, hnode, hstate ▸ id, hstate ▸ .inl⟩
  split
  · unfold Bulk.segmentWithdrawn
    split
    · exact entered _ rfl rfl rfl rfl rfl
    · exact entered _ rfl rfl rfl rfl rfl
    · exact entered _ rfl rfl rfl rfl rfl
  · exact entered _ rfl rfl rfl rfl rfl

/-- SAFE entry with the flag set last: its other parts do not read it. -/
theorem State.enterSafe_eq (s : State) :
    let w := s.line.phase.withdrawn
    let u := (s.offer .safeEntered).withdraw.complete (safeVerdict (passWithdrawn w))
    let v := u.withBulk (if segmentWithdrawn w then u.bulk.segmentWithdrawn.safeEntered else u.bulk.safeEntered)
    s.enterSafe = v.withSched { v.sched with safe := true, safeBroadcast := true } := by
  rcases Bool.eq_false_or_eq_true s.line.phase.withdrawn.isSome with hw | hw
  · simp only [State.enterSafe, State.withdraw, State.offer_line, State.withSched_line, hw, if_true]
    rfl
  · simp only [State.enterSafe, State.withdraw, State.offer_line, State.withSched_line, hw, Bool.false_eq_true,
      if_false]
    rfl

theorem Changes.enterSafe (h : Changes s t) : Changes s t.enterSafe := by
  rw [State.enterSafe_eq]
  have hqueue := ((h.step (.offer .safeEntered (by simp))).withdraw).step
    (.complete (safeVerdict (passWithdrawn t.line.phase.withdrawn)))
  refine (hqueue.step (.transfer _ (State.sameTransfer_safeEntered _ _))).step (.safeOn ?bulk ?queue ?line)
  case bulk =>
    simp only [State.withBulk_bulk]
    split
    · exact Bulk.safeEntered_not_moving _
    · exact Bulk.safeEntered_not_moving _
  case queue =>
    exact ReqQueue.noPassWant_iff.mpr
      ⟨fun _ he => noPassWant_of_safeVerdict (List.mem_filter.mp he).2,
        fun _ he => noPassWant_of_safeVerdict (List.mem_filter.mp he).2⟩
  case line => exact State.withdraw_withdrawn _

end BulkCommands

end Sys2Proof.Machine
end

section
/-! PROOFS. Every command as the changes it is made of. -/

namespace Sys2Proof.Machine

section Events
variable {s : State}

/-! ### Resets, the receiver and the transmitter -/

theorem execPowerOnReset_answers (upStrap downStrap : BitVec 2) (s : State) :
    Answers s (execPowerOnReset upStrap downStrap s) :=
  .next (((Changes.refl s).step .reset).step (.own s.now true upStrap downStrap s.choices s.pending))

theorem execResetRelease_answers (s : State) : Answers s (execResetRelease s) := by
  have hreleased : Changes s { s with resetAsserted := false } :=
    (Changes.refl s).step (.own s.now false s.upStrap s.downStrap s.choices s.pending)
  have hquiet : Changes s (State.withLine { s with resetAsserted := false } { s.line with quietSince := s.now }) :=
    hreleased.step (.line _ rfl rfl id)
  unfold execResetRelease
  split
  · exact .next hquiet.wake
  · exact .cannot _

theorem Changes.warmRestartWake (s : State) : Changes s s.warmRestart.wake :=
  ((Changes.refl s).step .warmRestart).wake

theorem execWarmRestartTakesEffect_answers (s : State) : Answers s (execWarmRestartTakesEffect s) := by
  unfold execWarmRestartTakesEffect
  split
  · exact .next (.warmRestartWake s)
  · exact .cannot _

theorem execTimebaseTick_answers (s : State) : Answers s (execTimebaseTick s) := by
  have hnow : Changes s { s with now := s.now + 1 } :=
    (Changes.refl s).step (.own (s.now + 1) s.resetAsserted s.upStrap s.downStrap s.choices s.pending)
  unfold execTimebaseTick
  split
  · exact .cannot _
  · exact .next (hnow.step .ages)

/-- The receiver's own events change the link port and queue no reply. -/
theorem Answers.receiver {l : LinkPort} (hreplies : l.replies = s.link.replies) :
    Answers s (.next (s.withLink l)) :=
  .next ((Changes.refl s).step (.link l (Nat.le_of_eq (congrArg List.length hreplies))))

theorem execHuntByte_answers (byte : Byte) (framingFault : Bool) (s : State) :
    Answers s (execHuntByte byte framingFault s) := by
  unfold execHuntByte
  split
  · exact .next (.refl s)
  · split
    · split
      · exact .receiver rfl
      · exact .cannot _
    · exact .cannot _

theorem execUpstreamByteCollected_answers (byte : Byte) (s : State) :
    Answers s (execUpstreamByteCollected byte s) := by
  unfold execUpstreamByteCollected
  split
  · exact .next (.refl s)
  · split
    · split
      · exact .receiver rfl
      · exact .cannot _
    · split
      · exact .cannot _
      · split
        · exact .receiver rfl
        · exact .receiver rfl
    · split
      · exact .cannot _
      · exact .receiver rfl

theorem execUpstreamCharacterStart_answers (s : State) : Answers s (execUpstreamCharacterStart s) := by
  unfold execUpstreamCharacterStart
  split
  · exact .next (.refl s)
  · split
    · exact .next (.refl s)
    · exact .receiver rfl
    · exact .receiver rfl

theorem execUpstreamCheckError_answers (byte : Byte) (framingFault : Bool) (s : State) :
    Answers s (execUpstreamCheckError byte framingFault s) := by
  have herror : Answers s (.next s.checkError) := .receiver rfl
  unfold execUpstreamCheckError
  split
  · exact .next (.refl s)
  · split
    · exact .cannot _
    · split
      · exact herror
      · exact .cannot _
    · split
      · exact herror
      · exact .cannot _

theorem execUpstreamInterByteExpiry_answers (s : State) : Answers s (execUpstreamInterByteExpiry s) := by
  have herror : Answers s (.next s.checkError) := .receiver rfl
  unfold execUpstreamInterByteExpiry
  split
  · exact .cannot _
  · split
    · exact herror
    · exact .cannot _
  · split
    · exact herror
    · exact .cannot _

theorem execUpstreamFrameSent_answers (s : State) : Answers s (execUpstreamFrameSent s) := by
  have hreply : Changes s (s.withLink s.link.replySent) :=
    (Changes.refl s).step (.link _ (by simp [LinkPort.replySent]))
  have hnotice : Changes s
      (s.withLink { s.link with tx := .idle, counters := countNoticeSent s.link.counters }) :=
    (Changes.refl s).step (.link _ (Nat.le_refl _))
  unfold execUpstreamFrameSent
  split
  · exact .cannot _
  · split
    · exact .next (.warmRestartWake s)
    · exact .next hreply.txNext
  · exact .next hnotice.txNext

theorem execFrameWithUnknownCommand_answers (addr cmd tag : Byte) (payload : List Byte) (s : State) :
    Answers s (execFrameWithUnknownCommand addr cmd tag payload s) := by
  unfold execFrameWithUnknownCommand
  split
  · exact .cannot _
  · exact .takeFrame _ fun _ _ => .cannot _

theorem execNoticeResendTimerExpiry_answers (s : State) : Answers s (execNoticeResendTimerExpiry s) := by
  unfold execNoticeResendTimerExpiry
  split
  · exact .cannot _
  · rename_i g hflight
    split
    · exact .next ((Changes.refl s).step (.resendReady g hflight)).wake
    · exact .cannot _

/-! ### Requests with more than one effect -/

theorem execReadCounters_answers (tag : Byte) (payload : List Byte) (s : State) :
    Answers s (execReadCounters tag payload s) := by
  unfold execReadCounters
  refine .takeFrame _ fun t h => .next ?_
  split
  · exact h.answer _ _
  · have hcleared : Changes s t.clearCounters :=
      (h.changes.step (.line { t.line with counters := LineCounters.zero } rfl rfl id)).step
        (.link { t.link with counters := LinkCounters.zero } (Nat.le_refl _))
    exact h.answerAfter hcleared rfl rfl _ _

theorem execRestartWarm_answers (tag : Byte) (payload : List Byte) (s : State) :
    Answers s (execRestartWarm tag payload s) := by
  unfold execRestartWarm
  exact .takeFrame _ fun t h => .next ((h.answer _ _).step (.link _ (Nat.le_refl _)))

theorem execDiscard_answers (tag : Byte) (payload : List Byte) (s : State) :
    Answers s (execDiscard tag payload s) := by
  unfold execDiscard
  refine .takeFrame _ fun t h => .next (h.takeLoad fun shadow hshadow => ?_)
  obtain rfl : t.tables.active = shadow := Option.some.inj hshadow
  exact fun _ _ _ => .inr (.inr rfl)

/-- The output data of an accepted EXCHANGE are as long as the node's outputs (R84). -/
theorem execExchange_answers (addr tag : Byte) (payload : List Byte) (s : State) :
    Answers s (execExchange addr tag payload s) := by
  unfold execExchange
  refine .takeFrame _ fun t h => ?_
  have hdemand := h.takeDemand (kind := .exchange) (by simp) (demandOf .exchange payload)
  simp only []
  split
  · rename_i hwrites
    simp only [Bool.and_eq_true, Option.isNone_iff_eq_none] at hwrites
    obtain ⟨hdata, hrefusal⟩ := hwrites
    obtain ⟨-, -, hlength⟩ := State.demandRefusal_none hrefusal
    refine .next (hdemand.step (.writeOutput _ _ ?_))
    have htables : (t.takeDemand (nodeFrame .exchange addr tag payload) .exchange
        (demandOf .exchange payload)).tables = t.tables := by
      unfold State.takeDemand
      split <;> rfl
    rw [State.cfg, htables]
    exact hlength rfl hdata
  · exact .next hdemand

/-! ### Timers and what an event may find due -/

theorem execDeadlineExpiry_answers (tag : Byte) (s : State) : Answers s (execDeadlineExpiry tag s) := by
  unfold execDeadlineExpiry
  split
  · exact .cannot _
  · rename_i e hentry
    split
    · exact .done ((Changes.refl s).step (.removeTag e tag .expired hentry))
    · exact .cannot _

theorem execMinPeriodWaitExpiry_answers (s : State) : Answers s (execMinPeriodWaitExpiry s) := by
  have hover : Changes s (s.withSched { s.sched with minWait := none }) :=
    (Changes.refl s).step (.sched _ rfl id)
  unfold execMinPeriodWaitExpiry
  split
  · exact .done hover.walk
  · exact .cannot _

theorem execSilenceTimerExpiry_answers (s : State) : Answers s (execSilenceTimerExpiry s) := by
  have hstopped : Changes s (s.withLink { s.link with silenceTimer := none }) :=
    (Changes.refl s).step (.link _ (Nat.le_refl _))
  unfold execSilenceTimerExpiry
  split
  · simp only []
    split
    · exact .done hstopped
    · exact .done hstopped.enterSafe
  · exact .cannot _

/-- A transfer that leaves its backoff was moving (R109). -/
theorem execBackoffExpiry_answers (s : State) : Answers s (execBackoffExpiry s) := by
  unfold execBackoffExpiry
  split
  · rename_i backoff hwaiting
    have hrunning : Changes s (s.withBulk { s.bulk with state := .running }) :=
      (Changes.refl s).step (.transfer _ ⟨rfl, rfl, rfl, rfl, fun _ => by rw [hwaiting]; rfl,
        fun _ => .inl (by rw [hwaiting]; rfl)⟩)
    split
    · exact .done hrunning
    · exact .cannot _
  · exact .cannot _

theorem execArbitration_answers (s : State) : Answers s (execArbitration s) := by
  unfold execArbitration
  split
  · rename_i hidle
    exact .next ((Changes.refl s).arbitrate hidle).follow
  · exact .next (.refl s)

theorem execCommitApplication_answers (s : State) : Answers s (execCommitApplication s) := by
  unfold execCommitApplication
  split
  · rename_i hdue
    exact .next ((Changes.refl s).apply (State.applicationDue_pending hdue)).follow
  · split
    · exact .cannot _
    · exact .next (.refl s)

/-! ### The line controller's events -/

theorem execGapTimerExpiry_answers (s : State) : Answers s (execGapTimerExpiry s) := by
  unfold execGapTimerExpiry
  split
  · rename_i o gap hphase
    split
    · exact .next ((Changes.refl s).step (.beginSending o gap hphase))
    · exact .cannot _
  · exact .cannot _

/-- The gap that starts after a cut character is that of the order held (R39). -/
theorem State.gapAfterCut_cases (s : State) :
    s.gapAfterCut = s.line.phase ∨
    ∃ o gap gap', s.line.phase = .gapWait o gap ∧ s.gapAfterCut = .gapWait o gap' := by
  unfold State.gapAfterCut
  split
  · rename_i o hphase
    exact .inr ⟨o, _, _, hphase, rfl⟩
  · exact .inl rfl

theorem execLastCharacterSent_answers (s : State) : Answers s (execLastCharacterSent s) := by
  have hcut : Changes s
      (s.withLine { s.line with phase := s.gapAfterCut, cutChar := false, quietSince := s.now }) := by
    rcases s.gapAfterCut_cases with h | ⟨o, gap, gap', hphase, h⟩
    · exact (Changes.refl s).step (.line _ rfl (by rw [h]) (by rw [h]; exact id))
    · exact (Changes.refl s).step (.line _ rfl (by rw [h, hphase]; rfl) (by rw [h, hphase]; exact id))
  unfold execLastCharacterSent
  split
  · rename_i o frame outputSent hphase
    have hsent := (Changes.refl s).step (.frameSent o outputSent)
    split
    · exact .done hsent
    · exact .next hsent
  · split
    · exact .next hcut
    · exact .cannot _

theorem execDownstreamCharacterStart_answers (s : State) : Answers s (execDownstreamCharacterStart s) := by
  have hstarted (foreign : Bool) : Changes s (s.withLine
      { s.line with phase := s.line.phase.charStarted, charIn := true, charForeign := foreign }) := by
    refine (Changes.refl s).step (.line _ rfl ?sending ?withdrawn)
    case sending => cases h : s.line.phase <;> rfl
    case withdrawn => cases h : s.line.phase <;> exact id
  unfold execDownstreamCharacterStart
  split
  · exact .next (.refl s)
  · exact .next (hstarted _)

theorem Changes.charArrived (s : State) : Changes s s.charArrived :=
  (Changes.refl s).step (.line _ rfl rfl id)

theorem Changes.stray (s : State) : Changes s s.stray := (Changes.refl s).step (.line _ rfl rfl id)

theorem execStrayByte_answers (byte : Byte) (s : State) : Answers s (execStrayByte byte s) := by
  unfold execStrayByte
  split
  · exact .next (.refl s)
  · split
    · exact .next (.stray s)
    · rename_i o gap hphase
      have hgap (gap' : Option Nat) : Changes s (s.stray.setPhase (.gapWait o gap')) :=
        (Changes.refl s).step (.line _ rfl (by rw [hphase]; rfl) (by rw [hphase]; exact id))
      exact .next (hgap _)
    · exact .next (.stray s)
    · split
      · exact .cannot _
      · exact .next (.stray s)
    · exact .cannot _
    · exact .cannot _

/-- A byte taken in AWAITING, RECEIVING or DRAINING leaves the line in one of them. -/
theorem Changes.byteTaken {p : LinePhase} (hbefore : s.line.phase.isSending = false)
    (hsending : p.isSending = false) (hwithdrawn : p.withdrawn = none) : Changes s (s.charArrived.setPhase p) :=
  (Changes.refl s).step (.line _ rfl (hsending.trans hbefore.symm) fun _ => hwithdrawn)

theorem execReplySyncArrival_answers (s : State) : Answers s (execReplySyncArrival s) := by
  unfold execReplySyncArrival
  split
  · exact .next (.refl s)
  · split
    · rename_i o out timer hphase
      split
      · exact .next (.byteTaken (by rw [hphase]; rfl) rfl rfl)
      · exact .next (.stray s)
    · exact .cannot _

theorem execReplyByteCollected_answers (byte : Byte) (s : State) : Answers s (execReplyByteCollected byte s) := by
  unfold execReplyByteCollected
  split
  · exact .next (.refl s)
  · split
    · rename_i o out got timer hphase
      split
      · exact .cannot _
      · split
        · exact .next (.byteTaken (by rw [hphase]; rfl) rfl rfl)
        · exact .next (.byteTaken (by rw [hphase]; rfl) rfl rfl)
    · rename_i o out timer hphase
      exact .next (.byteTaken (by rw [hphase]; rfl) rfl rfl)
    · exact .cannot _

/-- DATA content is read from a block of the node's input length alone (R24). -/
theorem validContent_data {cfg : NodeConfig} {req : Request} {kind : Byte} {payload : List Byte} {status : Byte}
    {block : List Byte} (h : validContent cfg req kind payload = some (.data status block)) :
    block.length = cfg.inputLen.toNat := by
  cases req with
  | exchange =>
    simp only [validContent] at h
    split at h
    · split at h
      · rename_i hblock
        cases h
        exact hblock.2
      · cases h
    · cases h
  | status | pass | segment | safe =>
    simp only [validContent] at h
    repeat' split at h
    all_goals cases h

theorem judgeReply_fitsInput (cfg : NodeConfig) (o : Order) (bytes : List Byte) :
    (judgeReply cfg o bytes).FitsInput cfg := by
  intro status block h
  unfold judgeReply at h
  simp only [] at h
  repeat' split at h
  all_goals cases h
  rename_i hcontent
  exact validContent_data hcontent

theorem LineOutcome.fitsInput_failure (kind : FailKind) (cfg : NodeConfig) :
    (LineOutcome.failure kind).FitsInput cfg := by
  rintro status block ⟨⟩

theorem execReplyFrameReceived_answers (byte : Byte) (s : State) : Answers s (execReplyFrameReceived byte s) := by
  unfold execReplyFrameReceived
  split
  · exact .next (.refl s)
  · split
    · rename_i o out got timer hphase
      have hsending : s.charArrived.line.phase.isSending = false := by
        rw [State.charArrived_line, hphase]
        rfl
      split
      · exact .done ((Changes.charArrived s).deliver out hsending (judgeReply_fitsInput _ _ _))
      · exact .cannot _
    · exact .cannot _

/-- An attempt that a timer ends fails (R32, R34). -/
theorem Answers.attemptFails {o : Order} (outputSent : Bool) (kind : FailKind)
    (hsending : s.line.phase.isSending = false) :
    Answers s (Machine.done (s.deliver o outputSent (.failure kind))) :=
  .done ((Changes.refl s).deliver outputSent hsending (LineOutcome.fitsInput_failure kind _))

theorem execReplyTimerExpiry_answers (s : State) : Answers s (execReplyTimerExpiry s) := by
  unfold execReplyTimerExpiry
  split
  · rename_i o out timer hphase
    split
    · exact .attemptFails _ _ (by rw [hphase]; rfl)
    · exact .cannot _
  · exact .cannot _

theorem execDownstreamInterByteExpiry_answers (s : State) : Answers s (execDownstreamInterByteExpiry s) := by
  unfold execDownstreamInterByteExpiry
  split
  · rename_i o out got timer hphase
    split
    · exact .attemptFails _ _ (by rw [hphase]; rfl)
    · exact .cannot _
  · rename_i o out timer hphase
    split
    · exact .attemptFails _ _ (by rw [hphase]; rfl)
    · exact .cannot _
  · exact .cannot _

end Events

/-! ### Every command -/

/-- Every command is refused, goes on by changes, or meets an unsound transfer record. -/
theorem exec_answers (c : Instr) (s : State) : Answers s (exec c s) := by
  cases c with
  | powerOnReset upStrap downStrap => exact execPowerOnReset_answers upStrap downStrap s
  | resetRelease => exact execResetRelease_answers s
  | warmRestartTakesEffect => exact execWarmRestartTakesEffect_answers s
  | timebaseTick => exact execTimebaseTick_answers s
  | huntByte byte framingFault => exact execHuntByte_answers byte framingFault s
  | upstreamByteCollected byte => exact execUpstreamByteCollected_answers byte s
  | upstreamCharacterStart => exact execUpstreamCharacterStart_answers s
  | upstreamCheckError byte framingFault => exact execUpstreamCheckError_answers byte framingFault s
  | upstreamInterByteExpiry => exact execUpstreamInterByteExpiry_answers s
  | upstreamFrameSent => exact execUpstreamFrameSent_answers s
  | frameWithUnknownCommand addr cmd tag payload =>
    exact execFrameWithUnknownCommand_answers addr cmd tag payload s
  | queryStatus tag payload => exact .takeFrame _ fun _ h => .next (h.answer _ _)
  | queryNode addr tag payload => exact .takeFrame _ fun _ h => .next (h.answer _ _)
  | readCounters tag payload => exact execReadCounters_answers tag payload s
  | restartWarm tag payload => exact execRestartWarm_answers tag payload s
  | readInput addr tag payload => exact .takeFrame _ fun _ h => .next h.readInput
  | writeOutput addr tag payload => exact .takeFrame _ fun _ h => .next h.takeWrite
  | exchange addr tag payload => exact execExchange_answers addr tag payload s
  | pass addr tag payload => exact .takeFrame _ fun _ h => .next (h.takeDemand (by simp) _)
  | probe addr tag payload => exact .takeFrame _ fun _ h => .next (h.takeDemand (by simp) _)
  | cancel tag payload => exact .takeFrame _ fun _ h => .next h.takeCancel
  | loadLine tag payload =>
    exact .takeFrame _ fun _ h => .next (h.takeLoad fun _ hload => .of_nodes (loadLine_nodes hload))
  | loadNodes tag payload => exact .takeFrame _ fun _ h => .next (h.takeLoad fun _ => loadNodes_thresholds)
  | loadMain tag payload =>
    exact .takeFrame _ fun _ h => .next (h.takeLoad fun _ hload => .of_nodes (loadMain_nodes hload))
  | loadInterleave tag payload =>
    exact .takeFrame _ fun _ h => .next (h.takeLoad fun _ hload => .of_nodes (loadInterleave_nodes hload))
  | setLengths tag payload =>
    exact .takeFrame _ fun _ h => .next (h.takeLoad fun _ hload => .of_nodes (setLengths_nodes hload))
  | discard tag payload =>
    exact execDiscard_answers tag payload s
  | readTable tag payload => exact .takeFrame _ fun _ h => .next h.takeReadTable
  | commit tag payload => exact .takeFrame _ fun _ h => .next h.takeCommit
  | start tag payload => exact .takeFrame _ fun _ h => .next h.takeStart
  | stop tag payload => exact .takeFrame _ fun _ h => .next h.takeStop
  | suspendCycle tag payload => exact .takeFrame _ fun _ h => .next h.takeSuspend
  | resumeCycle tag payload => exact .takeFrame _ fun _ h => .next h.takeResume
  | clearSafe tag payload => exact .takeFrame _ fun _ h => .next h.takeClearSafe
  | noticeAck tag payload => exact .takeFrame _ fun _ h => .next (h.takeAck _)
  | bulkOpen tag payload => exact .takeFrame _ fun _ h => .next (h.takeOpen _ (openFields_length_le h.dispatched))
  | bulkData tag payload => exact .takeFrame _ fun _ h => h.takeData _ _
  | bulkStart tag payload => exact .takeFrame _ fun _ h => .next h.takeBulkStart
  | bulkSuspend tag payload => exact .takeFrame _ fun _ h => .next h.takeBulkSuspend
  | bulkResume tag payload => exact .takeFrame _ fun _ h => .next h.takeBulkResume
  | bulkAbort tag payload => exact .takeFrame _ fun _ h => .next h.takeAbort
  | bulkStatus tag payload => exact .takeFrame _ fun _ h => .next (h.answer _ _)
  | bulkClear tag payload => exact .takeFrame _ fun _ h => .next h.takeClear
  | noticeResendTimerExpiry => exact execNoticeResendTimerExpiry_answers s
  | silenceTimerExpiry => exact execSilenceTimerExpiry_answers s
  | minPeriodWaitExpiry => exact execMinPeriodWaitExpiry_answers s
  | deadlineExpiry tag => exact execDeadlineExpiry_answers tag s
  | backoffExpiry => exact execBackoffExpiry_answers s
  | arbitration => exact execArbitration_answers s
  | commitApplication => exact execCommitApplication_answers s
  | gapTimerExpiry => exact execGapTimerExpiry_answers s
  | lastCharacterSent => exact execLastCharacterSent_answers s
  | downstreamCharacterStart => exact execDownstreamCharacterStart_answers s
  | strayByte byte => exact execStrayByte_answers byte s
  | replySyncArrival => exact execReplySyncArrival_answers s
  | replyByteCollected byte => exact execReplyByteCollected_answers byte s
  | replyFrameReceived byte => exact execReplyFrameReceived_answers byte s
  | replyTimerExpiry => exact execReplyTimerExpiry_answers s
  | downstreamInterByteExpiry => exact execDownstreamInterByteExpiry_answers s

/-- A step that goes on goes on by changes (R121, R161: all of its event's). -/
theorem step_changes {s t : State} (h : step s = .next t) : Changes s t := by
  unfold step at h
  split at h
  · cases h
    exact .refl s
  · rename_i c rest _
    have hqueue : Changes s { s with pending := rest } :=
      (Changes.refl s).step (.own s.now s.resetAsserted s.upStrap s.downStrap s.choices rest)
    have hanswers := exec_answers c { s with pending := rest }
    rw [h] at hanswers
    cases hanswers with
    | next hchanges => exact hqueue.trans hchanges

/-- What no change ends, no step ends. -/
theorem step_keeps {P : State → Prop} (hkeeps : ∀ s t, P s → Change s t → P t) {s t : State} (hs : P s)
    (h : step s = .next t) : P t :=
  (step_changes h).keeps hkeeps hs

/-- From a sound transfer record no step ends in a fault (R100). -/
theorem step_ne_fault {s : State} (hsound : s.bulk.sound = true) (f : Fault) : step s ≠ .fault f := by
  intro h
  unfold step at h
  split at h
  · cases h
  · rename_i c rest _
    have hanswers := exec_answers c { s with pending := rest }
    rw [h] at hanswers
    cases hanswers with
    | fault _ hunsound => exact absurd (hsound.symm.trans hunsound) (by simp)

end Sys2Proof.Machine
end

section
/-! PROOFS. The laws of the transfer buffer, the notice queue, the line direction and the tables, change by change
(R30, R31, R100, R142, R144, R155, R162). -/

namespace Sys2Proof.Machine

/-! ### The fields that a change with cases leaves alone -/

theorem State.setHead_frame (s : State) (c : QueueClass) (e : Entry) :
    s.setHead c e = s.withQueue (s.setHead c e).queue := by
  unfold State.setHead
  split <;> rfl

theorem State.completeHead_frame (s : State) (c : QueueClass) (r : Result) (content : List Byte) :
    s.completeHead c r content =
      (s.withQueue (s.completeHead c r content).queue).withLink (s.completeHead c r content).link := by
  unfold State.completeHead
  split <;> rfl

theorem State.takeRefresh_frame (s : State) (n : Nat) (urgent : Bool) (t : TagSlot) :
    s.takeRefresh n urgent t = s.withQueue (s.takeRefresh n urgent t).queue := by
  unfold State.takeRefresh
  simp only []
  split
  · rfl
  · split
    · split <;> rfl
    · rfl

theorem State.orderHead_frame (s : State) (c : QueueClass) :
    s.orderHead c = (s.withLine (s.orderHead c).line).withQueue (s.orderHead c).queue := by
  unfold State.orderHead
  split
  · rfl
  · rw [State.acceptOrder_line, State.setHead_frame]
    rfl

theorem State.orderSegment_frame (s : State) :
    s.orderSegment = ((s.withLine s.orderSegment.line).withSched s.orderSegment.sched).withBulk
      { s.bulk with attempts := s.bulk.attempts + 1, segPhase := .onLine } := by
  unfold State.orderSegment
  rw [State.acceptOrder_line]
  rfl

section Laws
variable {s t : State}

/-! ### The transfer buffer (R100) -/

/-- A record with the data of a sound one is sound. -/
theorem Bulk.sound_of_data {b b' : Bulk} (hs : b.sound = true) (hbuffer : b'.buffer = b.buffer)
    (hdeclared : b'.declared = b.declared) (hfilled : b'.filled = b.filled) : b'.sound = true := by
  rw [Bulk.sound_iff] at hs ⊢
  rw [hbuffer, hdeclared, hfilled]
  exact hs

theorem Bulk.sound_filledWith {b : Bulk} {offset : Nat} {data : List Byte} (hs : b.sound = true)
    (hrefusal : b.dataRefusal offset data.length = none) (hrange : offset + data.length ≤ bufferSize) :
    (b.filledWith offset data).sound = true := by
  obtain ⟨hbuffer, -, hdeclared⟩ := (Bulk.sound_iff b).mp hs
  obtain ⟨-, -, hcount⟩ := Bulk.dataRefusal_none hrefusal
  exact (Bulk.sound_iff _).mpr ⟨Memory.wf_writeRun data hbuffer hrange, hcount, hdeclared⟩

/-- Only the transfer's own changes touch its data, and each keeps them sound. -/
theorem Change.keeps_bulk_sound (hs : s.bulk.sound = true) (h : Change s t) : t.bulk.sound = true := by
  cases h with
  | reset | warmRestart | cleared => rfl
  | accept => rw [State.acceptOrder_line]; exact hs
  | orderHead => rw [State.orderHead_frame]; exact hs
  | orderSegment => rw [State.orderSegment_frame]; exact hs
  | completeHead => rw [State.completeHead_frame]; exact hs
  | awaitRetry => rw [State.setHead_frame]; exact hs
  | takeRefresh => rw [State.takeRefresh_frame]; exact hs
  | transfer b hsame => exact Bulk.sound_of_data hs hsame.buffer hsame.declared hsame.filled
  | opened n length hlength => exact (Bulk.sound_iff _).mpr ⟨rfl, Nat.zero_le _, hlength⟩
  | filledWith offset data hrefusal hrange => exact Bulk.sound_filledWith hs hrefusal hrange
  | started => exact Bulk.sound_of_data hs rfl rfl rfl
  | own | link | queueReply | beginSending | line | frameSent | sched | safeOff | safeOn | countdowns | outcome
  | imageUpdate | writeOutput | ages | offer | noticeTaken | resendReady | noticeRemoved | complete | enqueue
  | removeTag | shadow | commitPending | applied => exact hs

/-! ### The line direction (R30, R31, Table 2-1) -/

theorem LineCtl.sound_iff (l : LineCtl) : l.sound = true ↔ (l.direction = .transmit ↔ l.phase.isSending = true) := by
  unfold LineCtl.sound
  cases l.direction <;> cases l.phase.isSending <;> decide

theorem LineCtl.sound_of_receive {l : LineCtl} (hdirection : l.direction = .receive)
    (hsending : l.phase.isSending = false) : l.sound = true := by
  rw [LineCtl.sound_iff, hdirection, hsending]
  simp

theorem LineCtl.sound_of_same {l l' : LineCtl} (hs : l.sound = true) (hdirection : l'.direction = l.direction)
    (hsending : l'.phase.isSending = l.phase.isSending) : l'.sound = true := by
  rw [LineCtl.sound_iff] at hs ⊢
  rw [hdirection, hsending]
  exact hs

/-- An acceptance sets the direction exactly where it begins SENDING (R28, R30). -/
theorem State.acceptOrder_line_sound (hs : s.line.sound = true) (hidle : s.line.phase.isIdle = true) (o : Order) :
    (s.acceptOrder o).line.sound = true := by
  have hsending : s.line.phase.isSending = false := by
    cases hphase : s.line.phase with
    | idle => rfl
    | gapWait | sending | awaiting | receiving | draining => simp [hphase, LinePhase.isIdle] at hidle
  unfold State.acceptOrder
  split
  · exact LineCtl.sound_of_same hs rfl hsending.symm
  · split
    · rfl
    · exact LineCtl.sound_of_same hs rfl hsending.symm

theorem State.sentPhase_not_sending (s : State) (o : Order) (outputSent : Bool) :
    (s.sentPhase o outputSent).isSending = false ∧ (s.sentPhase o outputSent).withdrawn = none := by
  unfold State.sentPhase
  split <;> exact ⟨rfl, rfl⟩

theorem Change.keeps_line_sound (hs : s.line.sound = true) (h : Change s t) : t.line.sound = true := by
  cases h with
  | reset | warmRestart | beginSending => rfl
  | accept o hidle => exact State.acceptOrder_line_sound hs hidle o
  | orderHead c hidle =>
    unfold State.orderHead
    split
    · exact hs
    · rename_i e _ _
      have hhead : (s.setHead c e.ordered).line = s.line := by
        rw [State.setHead_frame]
        rfl
      exact State.acceptOrder_line_sound (by rw [hhead]; exact hs) (by rw [hhead]; exact hidle) _
  | orderSegment hidle =>
    refine State.acceptOrder_line_sound ?_ ?_ _
    exacts [hs, hidle]
  | line l hdirection hsending => exact LineCtl.sound_of_same hs hdirection hsending
  | frameSent o outputSent => exact LineCtl.sound_of_receive rfl (s.sentPhase_not_sending o outputSent).1
  | completeHead => rw [State.completeHead_frame]; exact hs
  | awaitRetry => rw [State.setHead_frame]; exact hs
  | takeRefresh => rw [State.takeRefresh_frame]; exact hs
  | own | link | queueReply | sched | safeOff | safeOn | countdowns | outcome | imageUpdate | writeOutput | ages
  | offer | noticeTaken | resendReady | noticeRemoved | complete | enqueue | removeTag | transfer | opened
  | cleared | filledWith | started | shadow | commitPending | applied => exact hs

/-! ### The tables (R155, R162) -/

theorem TableStore.sound_iff (x : TableStore) :
    x.sound = true ↔ x.active.invalid = none ∧ (x.commitPending = true → x.shadow.invalid = none) := by
  unfold TableStore.sound
  cases x.commitPending <;> simp

/-- The tables change by a load with no commit pending, by COMMIT, by the application and by the resets alone. -/
theorem Change.keeps_tables_sound (hs : s.tables.sound = true) (h : Change s t) : t.tables.sound = true := by
  obtain ⟨hactive, hshadow⟩ := (TableStore.sound_iff _).mp hs
  cases h with
  | reset => decide
  | warmRestart => exact (TableStore.sound_iff _).mpr ⟨hactive, fun hpending => by cases hpending⟩
  | accept => rw [State.acceptOrder_line]; exact hs
  | orderHead => rw [State.orderHead_frame]; exact hs
  | orderSegment => rw [State.orderSegment_frame]; exact hs
  | completeHead => rw [State.completeHead_frame]; exact hs
  | awaitRetry => rw [State.setHead_frame]; exact hs
  | takeRefresh => rw [State.takeRefresh_frame]; exact hs
  | shadow x hpending =>
    refine (TableStore.sound_iff _).mpr ⟨hactive, fun hset => ?_⟩
    exact absurd (hpending.symm.trans hset) Bool.false_ne_true
  | commitPending hvalid => exact (TableStore.sound_iff _).mpr ⟨hactive, fun _ => hvalid⟩
  | applied hpending =>
    exact (TableStore.sound_iff _).mpr ⟨hshadow hpending, fun hset => by cases hset⟩
  | own | link | queueReply | beginSending | line | frameSent | sched | safeOff | safeOn | countdowns | outcome
  | imageUpdate | writeOutput | ages | offer | noticeTaken | resendReady | noticeRemoved | complete | enqueue
  | removeTag | transfer | opened | cleared | filledWith | started => exact hs

/-! ### The notice queue (R142 to R144) -/

theorem NoticeQueue.sound_iff (q : NoticeQueue) :
    q.sound = true ↔ q.depth ≤ 24 ∧ (q.waiting.filterMap Notice.key).Nodup ∧
      (q.overflowPending = true → q.depth = 24 ∧ .overflow ∉ q.waiting) := by
  unfold NoticeQueue.sound
  cases q.overflowPending <;> simp [and_assoc]

theorem Notice.key_of_join {offer w j : Notice} (h : offer.join w = some j) : j.key = w.key := by
  unfold Notice.join at h
  split at h
  · split at h
    · cases h
      rfl
    · cases h
  · split at h
    · cases h
      rfl
    · cases h
  · split at h
    · cases h
      rfl
    · cases h
  · cases h
    rfl
  · cases h

/-- A joining offer keeps what the waiting notices stand for (R143). -/
theorem joinWaiting_keys {offer : Notice} {l ws : List Notice} (h : joinWaiting offer l = some ws) :
    ws.map Notice.key = l.map Notice.key := by
  induction l generalizing ws with
  | nil => simp [joinWaiting] at h
  | cons w l ih =>
    simp only [joinWaiting] at h
    split at h
    · rename_i j hj
      cases h
      simp [Notice.key_of_join hj]
    · obtain ⟨ws', h', rfl⟩ := Option.map_eq_some_iff.mp h
      simp [ih h']

/-- An offer of a coalescing kind joins a notice of its kind and node (R143). -/
theorem Notice.join_of_key {offer w : Notice} (hkind : offer ≠ .overflow) (hkey : offer.key ≠ none)
    (hw : w.key = offer.key) : (offer.join w).isSome = true := by
  cases offer with
  | change | health | attention | cycleOverrun => cases w <;> simp_all [Notice.key, Notice.join]
  | overflow => exact absurd rfl hkind
  | restart | bulkEnd | commitApplied | safeEntered => exact absurd rfl hkey

theorem joinWaiting_none {offer : Notice} {l : List Notice} (h : joinWaiting offer l = none)
    (hkind : offer ≠ .overflow) {k : Nat × Nat} (hoffer : offer.key = some k) : k ∉ l.filterMap Notice.key := by
  intro hk
  obtain ⟨w, hw, hwk⟩ := List.mem_filterMap.mp hk
  induction l with
  | nil => cases hw
  | cons x l ih =>
    simp only [joinWaiting] at h
    split at h
    · cases h
    · rename_i hx
      rcases List.mem_cons.mp hw with rfl | hw
      · have hjoins := Notice.join_of_key hkind (by simp [hoffer]) (hwk.trans hoffer.symm)
        rw [hx] at hjoins
        cases hjoins
      · exact ih (Option.map_eq_none_iff.mp h) (List.mem_filterMap.mpr ⟨w, hw, hwk⟩) hw

theorem Notice.key_overflow_iff {w : Notice} : w.key = some (9, 0) ↔ w = .overflow := by
  cases w <;> simp [Notice.key]

theorem overflow_mem_iff (l : List Notice) : .overflow ∈ l ↔ (9, 0) ∈ l.filterMap Notice.key := by
  simp [List.mem_filterMap, Notice.key_overflow_iff]

theorem filterMap_key_of_map {l l' : List Notice} (h : l.map Notice.key = l'.map Notice.key) :
    l.filterMap Notice.key = l'.filterMap Notice.key := by
  have hid (x : List Notice) : x.filterMap Notice.key = (x.map Notice.key).filterMap id := by
    rw [List.filterMap_map]
    rfl
  rw [hid, hid, h]

/-- The keys of the waiting notices with one more at the tail. -/
theorem nodup_key_append {l : List Notice} {n : Notice} (hl : (l.filterMap Notice.key).Nodup)
    (hn : ∀ k, n.key = some k → k ∉ l.filterMap Notice.key) : ((l ++ [n]).filterMap Notice.key).Nodup := by
  rw [List.filterMap_append]
  cases hkey : n.key with
  | none => simpa [List.filterMap_cons, hkey] using hl
  | some k =>
    have hfresh := hn k hkey
    simp only [List.filterMap_cons, hkey, List.filterMap_nil]
    refine hl.append (List.nodup_singleton k) ?_
    rw [List.disjoint_singleton]
    exact hfresh

/-- An offer joins, is appended below 24, or is lost at 24 (R142, R144). -/
theorem NoticeQueue.sound_offer {q : NoticeQueue} (hs : q.sound = true) {n : Notice} (hkind : n ≠ .overflow) :
    (q.offer n).sound = true := by
  obtain ⟨hdepth, hnodup, hoverflow⟩ := (NoticeQueue.sound_iff q).mp hs
  rcases q.offer_cases n with ⟨ws, hjoin, h⟩ | ⟨hnone, hroom, h⟩ | ⟨hnone, hfull, h⟩
  · have hkeys := filterMap_key_of_map (joinWaiting_keys hjoin)
    have hsame : ({ q with waiting := ws } : NoticeQueue).depth = q.depth := by
      simp [NoticeQueue.depth, joinWaiting_length hjoin]
    rw [h, NoticeQueue.sound_iff, hsame, hkeys, overflow_mem_iff, hkeys, ← overflow_mem_iff]
    exact ⟨hdepth, hnodup, hoverflow⟩
  · have hone : ({ q with waiting := q.waiting ++ [n] } : NoticeQueue).depth = q.depth + 1 := by
      simp [NoticeQueue.depth, Nat.add_assoc]
    rw [h, NoticeQueue.sound_iff, hone]
    refine ⟨hroom, nodup_key_append hnodup fun k => joinWaiting_none hnone hkind, fun hset => ?_⟩
    obtain ⟨hfull, -⟩ := hoverflow hset
    omega
  · have hdepth24 : q.depth = 24 := Nat.le_antisymm hdepth hfull
    rw [h, NoticeQueue.sound_iff]
    refine ⟨hdepth, hnodup, fun hset => ⟨hdepth24, ?_⟩⟩
    rcases (Bool.or_eq_true _ _).mp hset with hset | hset
    · exact (hoverflow hset).2
    · simpa [NoticeQueue.overflowWaiting] using hset

/-- A first send moves the oldest notice into flight, a resend moves none (R145, R147). -/
theorem State.sound_noticeTaken {q : NoticeQueue} {f : InFlight} (hs : s.notices.sound = true)
    (htaken : s.noticeTaken = some (q, f)) : q.sound = true := by
  obtain ⟨hdepth, hnodup, hoverflow⟩ := (NoticeQueue.sound_iff _).mp hs
  unfold State.noticeTaken at htaken
  simp only [] at htaken
  split at htaken
  · rename_i g hflight
    cases htaken
    rw [NoticeQueue.sound_iff]
    simp only [NoticeQueue.depth, hflight] at hdepth hoverflow ⊢
    exact ⟨hdepth, hnodup, hoverflow⟩
  · rename_i hflight
    split at htaken
    · cases htaken
    · rename_i n rest hwaiting
      cases htaken
      rw [hwaiting, List.filterMap_cons] at hnodup
      have hrest : (rest.filterMap Notice.key).Nodup := by
        split at hnodup
        · exact hnodup
        · exact (List.nodup_cons.mp hnodup).2
      rw [NoticeQueue.sound_iff]
      simp only [NoticeQueue.depth, hflight, hwaiting, Option.toList, List.length_cons, List.length_nil,
        List.mem_cons, not_or] at hdepth hoverflow ⊢
      refine ⟨by omega, hrest, fun hset => ?_⟩
      obtain ⟨hfull, -, hno⟩ := hoverflow hset
      exact ⟨by omega, hno⟩

/-- The place that a removed notice leaves is the OVERFLOW's where one is pending (R146). -/
theorem NoticeQueue.sound_removed {q : NoticeQueue} {g : InFlight} (hs : q.sound = true)
    (hflight : q.inFlight = some g) : (q.removed g).sound = true := by
  obtain ⟨hdepth, hnodup, hoverflow⟩ := (NoticeQueue.sound_iff q).mp hs
  have hlength : q.waiting.length + 1 ≤ 24 := by
    simpa [NoticeQueue.depth, hflight, Nat.add_comm] using hdepth
  rw [NoticeQueue.sound_iff]
  cases hset : q.overflowPending with
  | false =>
    simp only [NoticeQueue.removed, NoticeQueue.depth, hset, Bool.false_eq_true, if_false, Option.toList,
      List.length_nil]
    exact ⟨by omega, hnodup, by simp⟩
  | true =>
    obtain ⟨-, hno⟩ := hoverflow hset
    have hfresh : ∀ k, Notice.overflow.key = some k → k ∉ q.waiting.filterMap Notice.key := by
      rintro k ⟨⟩
      rwa [← overflow_mem_iff]
    simp only [NoticeQueue.removed, NoticeQueue.depth, hset, if_true, Option.toList, List.length_nil,
      List.length_append, List.length_singleton]
    exact ⟨by omega, nodup_key_append hnodup hfresh, by simp⟩

theorem Change.keeps_notices_sound (hs : s.notices.sound = true) (h : Change s t) : t.notices.sound = true := by
  cases h with
  | reset => decide
  | warmRestart =>
    exact (NoticeQueue.sound_iff _).mpr
      ⟨by simp [State.warmRestart, NoticeQueue.depth], List.nodup_nil, fun hset => by cases hset⟩
  | accept => rw [State.acceptOrder_line]; exact hs
  | orderHead => rw [State.orderHead_frame]; exact hs
  | orderSegment => rw [State.orderSegment_frame]; exact hs
  | completeHead => rw [State.completeHead_frame]; exact hs
  | awaitRetry => rw [State.setHead_frame]; exact hs
  | takeRefresh => rw [State.takeRefresh_frame]; exact hs
  | offer n hkind => exact NoticeQueue.sound_offer hs hkind
  | noticeTaken q f htaken => exact State.sound_noticeTaken hs htaken
  | resendReady g hflight =>
    rw [NoticeQueue.sound_iff] at hs ⊢
    simp only [NoticeQueue.depth, hflight] at hs
    exact hs
  | noticeRemoved g hflight => exact NoticeQueue.sound_removed hs hflight
  | own | link | queueReply | beginSending | line | frameSent | sched | safeOff | safeOn | countdowns | outcome
  | imageUpdate | writeOutput | ages | complete | enqueue | removeTag | transfer | opened | cleared | filledWith
  | started | shadow | commitPending | applied => exact hs

end Laws

end Sys2Proof.Machine

namespace Sys2Proof
open Machine

/-- Settles O52: only the transfer's own changes touch its data. -/
theorem stepsKeepTheBufferSound : Obligations.StepsKeepTheBufferSound :=
  fun _ hs => ⟨fun _ => step_keeps (P := fun s => s.bulk.sound = true) (fun _ _ => Change.keeps_bulk_sound) hs,
    step_ne_fault hs⟩

/-- Settles O53: offers, takings and removals each keep the queue sound. -/
theorem stepsKeepTheNoticeQueueSound : Obligations.StepsKeepTheNoticeQueueSound :=
  fun _ _ => step_keeps (P := fun s => s.notices.sound = true) fun _ _ => Change.keeps_notices_sound

/-- Settles O57: a load writes no shadow that a commit is to apply, and COMMIT takes none that is invalid. -/
theorem stepsKeepTheTablesValid : Obligations.StepsKeepTheTablesValid :=
  fun _ _ => step_keeps (P := fun s => s.tables.sound = true) fun _ _ => Change.keeps_tables_sound

end Sys2Proof
end

section
/-! PROOFS. The law of the request queue and the reply slots, change by change (R82, R83, R87, R168). -/

namespace Sys2Proof.Machine

/-! ### Classes of entries -/

/-- A queued REFRESH entry, which another request may join (R87). -/
def Entry.waitsRefresh (e : Entry) : Bool := e.kind == .refresh && e.phase == .queued

/-- The tags of a run of entries. -/
def tagsOf (l : List Entry) : List Byte := l.flatMap Entry.tagList

/-- The part of the law that reads no tag: only the head of a class is in flight, and the queued REFRESH entries are
for different nodes (R82, R87). -/
structure ReqQueue.Shaped (q : ReqQueue) : Prop where
  urgent : tailQueued q.urgent = true
  normal : tailQueued q.normal = true
  refresh : (q.entries.filter Entry.waitsRefresh).Pairwise fun a b => a.node ≠ b.node

/-- The part of the law that counts tags and replies (R82, R83, R168). -/
structure TagsSound (entries : List Entry) (replies : Nat) : Prop where
  nodup : (tagsOf entries).Nodup
  room : (tagsOf entries).length ≤ 8
  held : ∀ e ∈ entries, e.tags ≠ []
  slots : replies + (tagsOf entries).length ≤ 16

theorem State.queueSound_iff (s : State) :
    s.queueSound = true ↔ s.queue.Shaped ∧ TagsSound s.queue.entries s.link.replies.length := by
  have htags : s.outstanding = tagsOf s.queue.entries := rfl
  constructor
  · intro h
    simp only [State.queueSound, Bool.and_eq_true, decide_eq_true_eq, List.all_eq_true, Bool.not_eq_true',
      List.isEmpty_eq_false_iff] at h
    obtain ⟨⟨⟨⟨⟨⟨hnodup, hroom⟩, hheld⟩, hurgent⟩, hnormal⟩, hrefresh⟩, hslots⟩ := h
    exact ⟨⟨hurgent, hnormal, hrefresh⟩, ⟨hnodup, hroom, hheld, hslots⟩⟩
  · rintro ⟨⟨hurgent, hnormal, hrefresh⟩, ⟨hnodup, hroom, hheld, hslots⟩⟩
    simp only [State.queueSound, Bool.and_eq_true, decide_eq_true_eq, List.all_eq_true, Bool.not_eq_true',
      List.isEmpty_eq_false_iff]
    exact ⟨⟨⟨⟨⟨⟨hnodup, hroom⟩, hheld⟩, hurgent⟩, hnormal⟩, hrefresh⟩, hslots⟩

theorem tailQueued_iff (l : List Entry) : tailQueued l = true ↔ ∀ e ∈ l.drop 1, e.phase = .queued := by
  simp [tailQueued]

theorem tailQueued_sublist {l l' : List Entry} (hsub : l'.Sublist l) (h : tailQueued l = true) :
    tailQueued l' = true := by
  rw [tailQueued_iff] at h ⊢
  exact fun e he => h e ((hsub.drop 1).subset he)

/-- A queued entry joins the tail of a class. -/
theorem tailQueued_append {l : List Entry} {e : Entry} (h : tailQueued l = true) (he : e.phase = .queued) :
    tailQueued (l ++ [e]) = true := by
  rw [tailQueued_iff] at h ⊢
  cases l with
  | nil => simp
  | cons x l =>
    intro y hy
    rcases List.mem_append.mp hy with hy | hy
    · exact h y hy
    · rw [List.mem_singleton.mp hy]
      exact he

theorem tailQueued_cons {e e' : Entry} {l : List Entry} (h : tailQueued (e :: l) = true) :
    tailQueued (e' :: l) = true := h

/-- Entries changed in their tags alone. -/
theorem tailQueued_map {l : List Entry} {f : Entry → Entry} (hphase : ∀ e, (f e).phase = e.phase)
    (h : tailQueued l = true) : tailQueued (l.map f) = true := by
  rw [tailQueued_iff] at h ⊢
  rw [← List.map_drop]
  intro e he
  obtain ⟨x, hx, rfl⟩ := List.mem_map.mp he
  rw [hphase]
  exact h x hx

/-! ### What keeps the shape -/

/-- A queue with fewer entries. -/
theorem ReqQueue.Shaped.sublist {q q' : ReqQueue} (hq : q.Shaped) (hurgent : q'.urgent.Sublist q.urgent)
    (hnormal : q'.normal.Sublist q.normal) : q'.Shaped :=
  ⟨tailQueued_sublist hurgent hq.urgent, tailQueued_sublist hnormal hq.normal,
    hq.refresh.sublist ((hurgent.append hnormal).filter _)⟩

/-- A queue whose entries are changed in their tags alone. -/
theorem ReqQueue.Shaped.map {q : ReqQueue} (hq : q.Shaped) {f g : Entry → Entry}
    (hf : ∀ e, (f e).kind = e.kind ∧ (f e).node = e.node ∧ (f e).phase = e.phase)
    (hg : ∀ e, (g e).kind = e.kind ∧ (g e).node = e.node ∧ (g e).phase = e.phase) :
    ReqQueue.Shaped ⟨q.urgent.map f, q.normal.map g⟩ := by
  refine ⟨tailQueued_map (fun e => (hf e).2.2) hq.urgent, tailQueued_map (fun e => (hg e).2.2) hq.normal, ?_⟩
  have hwaits {k : Entry → Entry} (hk : ∀ e, (k e).kind = e.kind ∧ (k e).node = e.node ∧ (k e).phase = e.phase)
      (l : List Entry) :
      ((l.map k).filter Entry.waitsRefresh).map (·.node) = (l.filter Entry.waitsRefresh).map (·.node) := by
    rw [List.filter_map, List.map_map]
    have hfilter : Entry.waitsRefresh ∘ k = Entry.waitsRefresh := by
      funext e
      simp only [Function.comp_apply, Entry.waitsRefresh, (hk e).1, (hk e).2.2]
    rw [hfilter]
    exact List.map_congr_left fun e _ => (hk e).2.1
  have hrefresh := (List.pairwise_map (R := (· ≠ ·)) (f := fun e : Entry => e.node)).mpr hq.refresh
  refine (List.pairwise_map (R := (· ≠ ·)) (f := fun e : Entry => e.node)).mp ?_
  simp only [ReqQueue.entries, List.filter_append, List.map_append] at hrefresh ⊢
  rw [hwaits hf, hwaits hg]
  exact hrefresh

theorem ReqQueue.entries_setFifo_sublist {q : ReqQueue} {c : QueueClass} {l l' : List Entry}
    {p : Entry → Bool} (hfifo : q.fifo c = l) (hsub : (l'.filter p).Sublist (l.filter p)) :
    ((q.setFifo c l').entries.filter p).Sublist (q.entries.filter p) := by
  subst hfifo
  cases c with
  | urgent =>
    simp only [ReqQueue.entries, List.filter_append]
    exact hsub.append (List.Sublist.refl _)
  | normal =>
    simp only [ReqQueue.entries, List.filter_append]
    exact (List.Sublist.refl _).append hsub

/-- The head of a class is put in flight. -/
theorem ReqQueue.Shaped.setHead {q : ReqQueue} (hq : q.Shaped) {c : QueueClass} {e e' : Entry} {rest : List Entry}
    (hfifo : q.fifo c = e :: rest) (hphase : e'.phase ≠ .queued) : (q.setFifo c (e' :: rest)).Shaped := by
  have hnot : e'.waitsRefresh = false := by simp [Entry.waitsRefresh, hphase]
  have hsub : ((e' :: rest).filter Entry.waitsRefresh).Sublist ((e :: rest).filter Entry.waitsRefresh) := by
    rw [List.filter_cons_of_neg (by simp [hnot])]
    exact (List.sublist_cons_self e rest).filter _
  have hrefresh := hq.refresh.sublist (ReqQueue.entries_setFifo_sublist hfifo hsub)
  cases c with
  | urgent =>
    have htail : tailQueued (e :: rest) = true := hfifo ▸ hq.urgent
    exact ⟨tailQueued_cons htail, hq.normal, hrefresh⟩
  | normal =>
    have htail : tailQueued (e :: rest) = true := hfifo ▸ hq.normal
    exact ⟨hq.urgent, tailQueued_cons htail, hrefresh⟩

/-- The entries with one more at the tail of a class. -/
theorem ReqQueue.entries_enqueue_perm (q : ReqQueue) (c : QueueClass) (e : Entry) :
    (q.setFifo c (q.fifo c ++ [e])).entries.Perm (e :: q.entries) := by
  cases c with
  | urgent =>
    change ((q.urgent ++ [e]) ++ q.normal).Perm _
    rw [List.append_assoc]
    exact List.perm_middle
  | normal =>
    change (q.urgent ++ (q.normal ++ [e])).Perm _
    rw [← List.append_assoc]
    exact List.perm_append_singleton _ _

/-- Different nodes of the queued REFRESH entries, in whatever order the entries stand. -/
theorem pairwise_node_perm {l l' : List Entry} (hperm : l.Perm l') :
    (l.filter Entry.waitsRefresh).Pairwise (fun a b => a.node ≠ b.node) ↔
      (l'.filter Entry.waitsRefresh).Pairwise fun a b => a.node ≠ b.node :=
  (hperm.filter _).pairwise_iff fun h => Ne.symm h

/-- A queued entry joins the tail of a class, alone for its node where it is a REFRESH. -/
theorem ReqQueue.Shaped.enqueue {q : ReqQueue} (hq : q.Shaped) (c : QueueClass) {e : Entry}
    (hphase : e.phase = .queued)
    (halone : e.waitsRefresh = true → ∀ x ∈ q.entries, x.waitsRefresh = true → e.node ≠ x.node) :
    (q.setFifo c (q.fifo c ++ [e])).Shaped := by
  have hrefresh : ((q.setFifo c (q.fifo c ++ [e])).entries.filter Entry.waitsRefresh).Pairwise
      fun a b => a.node ≠ b.node := by
    rw [pairwise_node_perm (q.entries_enqueue_perm c e)]
    cases hwaits : e.waitsRefresh with
    | false =>
      rw [List.filter_cons_of_neg (by simp [hwaits])]
      exact hq.refresh
    | true =>
      rw [List.filter_cons_of_pos hwaits]
      refine List.pairwise_cons.mpr ⟨fun x hx => ?_, hq.refresh⟩
      obtain ⟨hmem, hx⟩ := List.mem_filter.mp hx
      exact halone hwaits x hmem hx
  cases c with
  | urgent => exact ⟨tailQueued_append hq.urgent hphase, hq.normal, hrefresh⟩
  | normal => exact ⟨hq.urgent, tailQueued_append hq.normal hphase, hrefresh⟩

/-! ### What keeps the tags -/

theorem tagsOf_append (l l' : List Entry) : tagsOf (l ++ l') = tagsOf l ++ tagsOf l' := List.flatMap_append

theorem tagsOf_perm {l l' : List Entry} (h : l.Perm l') : (tagsOf l).Perm (tagsOf l') := h.flatMap_right _

theorem Entry.tagList_addTag (e : Entry) (t : TagSlot) : (e.addTag t).tagList = e.tagList ++ [t.tag] := by
  simp [Entry.tagList, Entry.addTag]

/-- Fewer tags, each answered or gone. -/
theorem TagsSound.sublist {l l' : List Entry} {n n' : Nat} (h : TagsSound l n)
    (htags : (tagsOf l').Sublist (tagsOf l)) (hheld : ∀ e ∈ l', e.tags ≠ [])
    (hslots : n' + (tagsOf l').length ≤ n + (tagsOf l).length) : TagsSound l' n' :=
  ⟨h.nodup.sublist htags, htags.length_le.trans h.room, hheld, hslots.trans h.slots⟩

/-- One tag more, as a request that can be held brings it. -/
theorem TagsSound.cons {l l' : List Entry} {n : Nat} {tag : Byte} (h : TagsSound l n)
    (htags : (tagsOf l').Perm (tag :: tagsOf l)) (hheld : ∀ e ∈ l', e.tags ≠ []) (hfresh : tag ∉ tagsOf l)
    (hroom : (tagsOf l).length < 8) (hslot : n + (tagsOf l).length < 16) : TagsSound l' n := by
  have hlength : (tagsOf l').length = (tagsOf l).length + 1 := htags.length_eq
  exact ⟨htags.nodup_iff.mpr (List.nodup_cons.mpr ⟨hfresh, h.nodup⟩), by omega, hheld, by omega⟩

theorem sublist_tagsOf_filter (p : Entry → Bool) (l : List Entry) :
    (tagsOf (l.filter p)).Sublist (tagsOf l) := by
  induction l with
  | nil => exact List.Sublist.refl _
  | cons e l ih =>
    by_cases he : p e = true
    · rw [List.filter_cons_of_pos he]
      exact (List.Sublist.refl _).append ih
    · rw [List.filter_cons_of_neg he]
      exact ih.trans (List.sublist_append_right _ _)

/-- The reply frames that a verdict gives an entry's tags. -/
def repliesFor (verdict : Entry → Option (Result × List Byte)) (e : Entry) : List UpFrame :=
  match verdict e with
  | some (r, content) => e.replies r content
  | none => []

theorem State.complete_replies (s : State) (verdict : Entry → Option (Result × List Byte)) :
    (s.complete verdict).link.replies = s.link.replies ++ s.queue.entries.flatMap (repliesFor verdict) := rfl

/-- Completed entries give their tags' slots to the replies, tag by tag (R91, R168). -/
theorem length_complete (verdict : Entry → Option (Result × List Byte)) (l : List Entry) :
    (l.flatMap (repliesFor verdict)).length + (tagsOf (l.filter fun e => (verdict e).isNone)).length =
      (tagsOf l).length := by
  induction l with
  | nil => rfl
  | cons e l ih =>
    cases hverdict : verdict e with
    | none =>
      rw [List.filter_cons_of_pos (by simp [hverdict])]
      simp only [tagsOf, List.flatMap_cons, repliesFor, hverdict, List.length_append, List.length_nil] at ih ⊢
      omega
    | some result =>
      rw [List.filter_cons_of_neg (by simp [hverdict])]
      simp only [tagsOf, List.flatMap_cons, repliesFor, hverdict, List.length_append, Entry.replies,
        List.length_map] at ih ⊢
      omega

/-! ### Joins (R87) -/

theorem Entry.joinable_iff (n : Nat) (e : Entry) : e.joinable n = true ↔ e.waitsRefresh = true ∧ e.node = n := by
  simp only [Entry.joinable, Entry.waitsRefresh, Bool.and_eq_true, beq_iff_eq]
  tauto

/-- The tag joins the one joinable entry of a class. -/
theorem tagsOf_joinIn_perm {n : Nat} {t : TagSlot} {l : List Entry}
    (hl : (l.filter Entry.waitsRefresh).Pairwise fun a b => a.node ≠ b.node)
    (hany : l.any (Entry.joinable n) = true) : (tagsOf (joinIn n t l)).Perm (t.tag :: tagsOf l) := by
  induction l with
  | nil => simp at hany
  | cons e l ih =>
    by_cases he : e.joinable n = true
    · obtain ⟨hwaits, hnode⟩ := (e.joinable_iff n).mp he
      rw [List.filter_cons_of_pos hwaits, List.pairwise_cons] at hl
      have hrest : joinIn n t l = l := by
        refine (List.map_congr_left fun x hx => ?_).trans (List.map_id l)
        refine if_neg fun hx' => ?_
        obtain ⟨hxwaits, hxnode⟩ := (x.joinable_iff n).mp hx'
        exact hl.1 x (List.mem_filter.mpr ⟨hx, hxwaits⟩) (hnode.trans hxnode.symm)
      change (tagsOf ((if e.joinable n then e.addTag t else e) :: joinIn n t l)).Perm _
      rw [if_pos he, hrest]
      change ((e.addTag t).tagList ++ tagsOf l).Perm _
      rw [Entry.tagList_addTag, List.append_assoc]
      exact List.perm_middle
    · have hany' : l.any (Entry.joinable n) = true := by simpa [he] using hany
      have hl' := hl.sublist ((List.sublist_cons_self e l).filter _)
      change (tagsOf ((if e.joinable n then e.addTag t else e) :: joinIn n t l)).Perm _
      rw [if_neg he]
      exact ((ih hl' hany').append_left e.tagList).trans List.perm_middle

/-- The one joinable entry of a class taken out of it. -/
theorem perm_cons_filter_joinable {n : Nat} {e : Entry} {l : List Entry}
    (hl : (l.filter Entry.waitsRefresh).Pairwise fun a b => a.node ≠ b.node)
    (hfind : l.find? (Entry.joinable n) = some e) : l.Perm (e :: l.filter fun x => !x.joinable n) := by
  induction l with
  | nil => simp at hfind
  | cons x l ih =>
    by_cases hx : x.joinable n = true
    · rw [List.find?_cons_of_pos hx, Option.some.injEq] at hfind
      subst hfind
      obtain ⟨hwaits, hnode⟩ := (x.joinable_iff n).mp hx
      rw [List.filter_cons_of_pos hwaits, List.pairwise_cons] at hl
      rw [List.filter_cons_of_neg (by simp [hx])]
      refine List.Perm.cons x (.of_eq (List.filter_eq_self.mpr fun y hy => ?_).symm)
      rw [Bool.not_eq_true', Bool.eq_false_iff]
      intro hy'
      obtain ⟨hywaits, hynode⟩ := (y.joinable_iff n).mp hy'
      exact hl.1 y (List.mem_filter.mpr ⟨hy, hywaits⟩) (hnode.trans hynode.symm)
    · rw [List.find?_cons_of_neg hx] at hfind
      have hl' := hl.sublist ((List.sublist_cons_self x l).filter _)
      rw [List.filter_cons_of_pos (by simp [hx])]
      exact ((ih hl' hfind).cons x).trans (List.Perm.swap _ _ _)

theorem joinIn_same (n : Nat) (t : TagSlot) (e : Entry) :
    (if e.joinable n then e.addTag t else e).kind = e.kind ∧
    (if e.joinable n then e.addTag t else e).node = e.node ∧
    (if e.joinable n then e.addTag t else e).phase = e.phase := by
  split <;> exact ⟨rfl, rfl, rfl⟩

theorem joinIn_held {n : Nat} {t : TagSlot} {l : List Entry} (hl : ∀ e ∈ l, e.tags ≠ []) :
    ∀ e ∈ joinIn n t l, e.tags ≠ [] := by
  intro e he
  obtain ⟨x, hx, rfl⟩ := List.mem_map.mp he
  split
  · simp [Entry.addTag]
  · exact hl x hx

theorem newEntry_held (kind : EntryKind) (n : Nat) (t : TagSlot) : (newEntry kind n t).tags ≠ [] := by
  simp [newEntry]

section Laws
variable {s t : State}

/-- A new entry for a tag that can be held. -/
theorem State.queueSound_enqueue (hs : s.queueSound = true) {c : QueueClass} {kind : EntryKind} {n : Nat}
    {x : TagSlot} (hold : s.CanHold x.tag)
    (halone : kind = .refresh → ∀ e ∈ s.queue.entries, e.joinable n = false) :
    (s.enqueue c (newEntry kind n x)).queueSound = true := by
  obtain ⟨hshape, htags⟩ := s.queueSound_iff.mp hs
  have hslot := hold.slot
  simp only [State.freeSlots, replySlots] at hslot
  refine (State.queueSound_iff _).mpr ⟨hshape.enqueue c rfl ?alone, ?tags⟩
  case alone =>
    intro hwaits e he hewaits hnode
    have hkind : kind = .refresh := by simpa [Entry.waitsRefresh, newEntry] using hwaits
    have hjoinable : e.joinable n = true := (e.joinable_iff n).mpr ⟨hewaits, hnode.symm⟩
    exact Bool.false_ne_true ((halone hkind e he).symm.trans hjoinable)
  case tags =>
    have hperm := s.queue.entries_enqueue_perm c (newEntry kind n x)
    refine htags.cons (tag := x.tag) (tagsOf_perm hperm) (fun e he => ?_) hold.fresh hold.room ?_
    · rcases List.mem_cons.mp (hperm.subset he) with rfl | he
      · exact newEntry_held _ _ _
      · exact htags.held e he
    · change s.link.replies.length + s.outstanding.length < 16
      omega

/-- A refresh that can be held joins the node's queued REFRESH entry, or makes one (R87). -/
theorem State.queueSound_takeRefresh (hs : s.queueSound = true) {n : Nat} (urgent : Bool) {x : TagSlot}
    (hold : s.CanHold x.tag) : (s.takeRefresh n urgent x).queueSound = true := by
  obtain ⟨hshape, htags⟩ := s.queueSound_iff.mp hs
  have hslot : s.link.replies.length + s.outstanding.length < 16 := by
    have hslot := hold.slot
    simp only [State.freeSlots, replySlots] at hslot
    omega
  have hurgent := hshape.refresh.sublist ((List.sublist_append_left s.queue.urgent s.queue.normal).filter _)
  have hnormal := hshape.refresh.sublist ((List.sublist_append_right s.queue.urgent s.queue.normal).filter _)
  obtain ⟨hheldUrgent, hheldNormal⟩ := List.forall_mem_append.mp htags.held
  have hkeep (e : Entry) : (id e).kind = e.kind ∧ (id e).node = e.node ∧ (id e).phase = e.phase := ⟨rfl, rfl, rfl⟩
  unfold State.takeRefresh
  simp only []
  split
  · rename_i hany
    refine (State.queueSound_iff _).mpr ⟨?_, ?_⟩
    · have h := hshape.map (joinIn_same n x) hkeep
      rwa [List.map_id] at h
    · refine htags.cons (tag := x.tag) ?_ ?_ hold.fresh hold.room hslot
      · exact (tagsOf_append _ _ ▸ (tagsOf_joinIn_perm hurgent hany).append_right _).trans
          (by rw [ReqQueue.entries, tagsOf_append]; exact .refl _)
      · exact List.forall_mem_append.mpr ⟨joinIn_held hheldUrgent, hheldNormal⟩
  · rename_i hnone
    split
    · rename_i e hfind
      have hjoinable := List.find?_some hfind
      obtain ⟨hwaits, hnode⟩ := (e.joinable_iff n).mp hjoinable
      have hany : s.queue.normal.any (Entry.joinable n) = true :=
        List.any_eq_true.mpr ⟨e, List.mem_of_find?_eq_some hfind, hjoinable⟩
      split
      · have hperm := perm_cons_filter_joinable hnormal hfind
        have hphase : e.phase = .queued := by
          simp only [Entry.waitsRefresh, Bool.and_eq_true, beq_iff_eq] at hwaits
          exact hwaits.2
        have hkept : ReqQueue.Shaped ⟨s.queue.urgent, s.queue.normal.filter fun x => !x.joinable n⟩ :=
          hshape.sublist (List.Sublist.refl _) List.filter_sublist
        refine (State.queueSound_iff _).mpr ⟨?_, ?_⟩
        · refine hkept.enqueue .urgent (e := e.addTag x) hphase fun _ y hy hywaits hynode => ?_
          rcases List.mem_append.mp hy with hy | hy
          · exact hnone (List.any_eq_true.mpr
              ⟨y, hy, (y.joinable_iff n).mpr ⟨hywaits, hynode.symm.trans hnode⟩⟩)
          · have hynot := (List.mem_filter.mp hy).2
            rw [(y.joinable_iff n).mpr ⟨hywaits, hynode.symm.trans hnode⟩] at hynot
            cases hynot
        · have hentries : ((s.queue.urgent ++ [e.addTag x]) ++
              s.queue.normal.filter fun y => !y.joinable n).Perm
              (e.addTag x :: (s.queue.urgent ++ s.queue.normal.filter fun y => !y.joinable n)) := by
            rw [List.append_assoc]
            exact List.perm_middle
          have hold' : s.queue.entries.Perm
              (e :: (s.queue.urgent ++ s.queue.normal.filter fun y => !y.joinable n)) :=
            (hperm.append_left _).trans List.perm_middle
          refine htags.cons (tag := x.tag) ((tagsOf_perm hentries).trans ?_) (fun y hy => ?_) hold.fresh hold.room
            hslot
          · refine .trans ?_ ((tagsOf_perm hold').symm.cons x.tag)
            change ((e.addTag x).tagList ++ tagsOf _).Perm (x.tag :: (e.tagList ++ tagsOf _))
            rw [Entry.tagList_addTag, List.append_assoc]
            exact List.perm_middle
          · rcases List.mem_cons.mp (hentries.subset hy) with rfl | hy
            · simp [Entry.addTag]
            · exact htags.held y (hold'.symm.subset (List.mem_cons_of_mem e hy))
      · refine (State.queueSound_iff _).mpr ⟨?_, ?_⟩
        · have h := hshape.map hkeep (joinIn_same n x)
          rwa [List.map_id] at h
        · refine htags.cons (tag := x.tag) ?_ ?_ hold.fresh hold.room hslot
          · refine (tagsOf_append _ _ ▸ (tagsOf_joinIn_perm hnormal hany).append_left _).trans ?_
            rw [ReqQueue.entries, tagsOf_append]
            exact List.perm_middle
          · exact List.forall_mem_append.mpr ⟨hheldUrgent, joinIn_held hheldNormal⟩
    · rename_i hfind
      refine State.queueSound_enqueue hs hold fun _ e he => ?_
      rcases List.mem_append.mp he with he | he
      · exact Bool.eq_false_iff.mpr fun hjoinable => hnone (List.any_eq_true.mpr ⟨e, he, hjoinable⟩)
      · simpa using List.find?_eq_none.mp hfind e he

/-- A removed tag gives its slot to its reply, and no other tag changes (R93, R168). -/
theorem State.queueSound_removeTag (hs : s.queueSound = true) {e : Entry} {tag : Byte} (r : Result)
    (hentry : s.entryOf tag = some e) : (s.removeTag e tag r).queueSound = true := by
  obtain ⟨hshape, htags⟩ := s.queueSound_iff.mp hs
  have hqueue : (s.removeTag e tag r).queue = ⟨entriesWithout tag s.queue.urgent, entriesWithout tag s.queue.normal⟩ :=
    ReqQueue.dropTag_eq _ _
  have hwithout (x : Entry) : (x.without tag).kind = x.kind ∧ (x.without tag).node = x.node ∧
      (x.without tag).phase = x.phase := ⟨rfl, rfl, rfl⟩
  have htagsOf : tagsOf (s.removeTag e tag r).queue.entries = s.outstanding.filter (· != tag) :=
    s.outstanding_removeTag e tag r
  have hlt := State.length_outstanding_removeTag_lt r hentry
  refine (State.queueSound_iff _).mpr ⟨?_, htags.sublist ?_ ?_ ?_⟩
  · rw [hqueue]
    exact (hshape.map hwithout hwithout).sublist List.filter_sublist List.filter_sublist
  · rw [htagsOf]
    exact List.filter_sublist
  · rw [hqueue]
    intro x hx
    rcases List.mem_append.mp hx with hx | hx <;> simpa [entriesWithout] using (List.mem_filter.mp hx).2
  · have hreplies : (s.removeTag e tag r).link.replies.length = s.link.replies.length + 1 := by
      simp [State.removeTag, State.queueReply]
    change _ + (s.removeTag e tag r).outstanding.length ≤ _ + s.outstanding.length
    omega

/-- Completed entries are answered and gone (R91). -/
theorem State.queueSound_complete (hs : s.queueSound = true) (verdict : Entry → Option (Result × List Byte)) :
    (s.complete verdict).queueSound = true := by
  obtain ⟨hshape, htags⟩ := s.queueSound_iff.mp hs
  have hentries : (s.complete verdict).queue.entries = s.queue.entries.filter fun e => (verdict e).isNone :=
    (List.filter_append _ _).symm
  have hcount := length_complete verdict s.queue.entries
  refine (State.queueSound_iff _).mpr ⟨hshape.sublist List.filter_sublist List.filter_sublist, ?_⟩
  rw [hentries]
  refine htags.sublist (sublist_tagsOf_filter _ _) (fun e he => htags.held e (List.mem_of_mem_filter he)) ?_
  rw [State.complete_replies, List.length_append]
  omega

/-- The head of a class in flight, with the tags it has. -/
theorem State.queueSound_setHead (hs : s.queueSound = true) {c : QueueClass} {e e' : Entry} {rest : List Entry}
    (hfifo : s.queue.fifo c = e :: rest) (hphase : e'.phase ≠ .queued) (htagList : e'.tagList = e.tagList) :
    (s.setHead c e').queueSound = true := by
  obtain ⟨hshape, htags⟩ := s.queueSound_iff.mp hs
  have hset : s.setHead c e' = s.withQueue (s.queue.setFifo c (e' :: rest)) := by
    rw [State.setHead, hfifo]
  have hsame : tagsOf (s.queue.setFifo c (e' :: rest)).entries = tagsOf s.queue.entries := by
    have hhead : tagsOf (e' :: rest) = tagsOf (e :: rest) := by
      simp only [tagsOf, List.flatMap_cons, htagList]
    cases c with
    | urgent =>
      simp only [ReqQueue.fifo] at hfifo
      simp only [ReqQueue.entries, ReqQueue.setFifo, tagsOf_append, hhead, hfifo]
    | normal =>
      simp only [ReqQueue.fifo] at hfifo
      simp only [ReqQueue.entries, ReqQueue.setFifo, tagsOf_append, hhead, hfifo]
  have htagsHead : ∀ x ∈ e' :: rest, x.tags ≠ [] := by
    have hclass : ∀ x ∈ e :: rest, x.tags ≠ [] := by
      intro x hx
      refine htags.held x ?_
      rw [← hfifo] at hx
      cases c with
      | urgent => exact List.mem_append_left _ hx
      | normal => exact List.mem_append_right _ hx
    refine List.forall_mem_cons.mpr ⟨fun hempty => ?_, (List.forall_mem_cons.mp hclass).2⟩
    have hlist : e.tagList = [] := by
      rw [← htagList, Entry.tagList, hempty]
      rfl
    exact (List.forall_mem_cons.mp hclass).1 (List.map_eq_nil_iff.mp hlist)
  obtain ⟨hheldUrgent, hheldNormal⟩ := List.forall_mem_append.mp htags.held
  rw [hset, State.queueSound_iff]
  refine ⟨hshape.setHead hfifo hphase, htags.sublist ?_ ?_ ?_⟩
  · rw [State.withQueue_queue, hsame]
  · cases c with
    | urgent => exact List.forall_mem_append.mpr ⟨htagsHead, hheldNormal⟩
    | normal => exact List.forall_mem_append.mpr ⟨hheldUrgent, htagsHead⟩
  · rw [State.withQueue_queue, hsame]
    exact Nat.le_refl _

/-- The head of a class is answered, tag by tag, and gone (R90). -/
theorem State.queueSound_completeHead (hs : s.queueSound = true) (c : QueueClass) (r : Result)
    (content : List Byte) : (s.completeHead c r content).queueSound = true := by
  obtain ⟨hshape, htags⟩ := s.queueSound_iff.mp hs
  unfold State.completeHead
  split
  · exact hs
  · rename_i e rest hfifo
    have hperm : s.queue.entries.Perm (e :: (s.queue.setFifo c rest).entries) := by
      cases c with
      | urgent =>
        simp only [ReqQueue.fifo] at hfifo
        simp only [ReqQueue.entries, ReqQueue.setFifo, hfifo]
        exact .refl _
      | normal =>
        simp only [ReqQueue.fifo] at hfifo
        simp only [ReqQueue.entries, ReqQueue.setFifo, hfifo]
        exact List.perm_middle
    have hsub : (s.queue.setFifo c rest).entries.Sublist s.queue.entries := by
      cases c with
      | urgent =>
        simp only [ReqQueue.fifo] at hfifo
        simp only [ReqQueue.entries, ReqQueue.setFifo, hfifo]
        exact (List.sublist_cons_self e rest).append (List.Sublist.refl _)
      | normal =>
        simp only [ReqQueue.fifo] at hfifo
        simp only [ReqQueue.entries, ReqQueue.setFifo, hfifo]
        exact (List.Sublist.refl _).append (List.sublist_cons_self e rest)
    have hlength : (tagsOf s.queue.entries).length =
        e.tagList.length + (tagsOf (s.queue.setFifo c rest).entries).length := by
      rw [(tagsOf_perm hperm).length_eq]
      exact List.length_append
    have hshape' : (s.queue.setFifo c rest).Shaped := by
      have hrest : rest.Sublist (s.queue.fifo c) := hfifo ▸ List.sublist_cons_self e rest
      cases c with
      | urgent => exact hshape.sublist hrest (List.Sublist.refl _)
      | normal => exact hshape.sublist (List.Sublist.refl _) hrest
    refine (State.queueSound_iff _).mpr ⟨hshape', htags.sublist (hsub.flatMap _) (fun x hx => htags.held x (hsub.subset hx)) ?_⟩
    simp only [State.withLink_link, State.withLink_queue, State.withQueue_queue, List.length_append, Entry.replies,
      List.length_map]
    omega

/-- A reply takes a free slot. -/
theorem State.queueSound_link (hs : s.queueSound = true) {u : State} (hqueue : u.queue = s.queue)
    (hreplies : u.link.replies.length + s.outstanding.length ≤ 16) : u.queueSound = true := by
  obtain ⟨hshape, htags⟩ := s.queueSound_iff.mp hs
  refine (State.queueSound_iff _).mpr ⟨hqueue ▸ hshape, ?_⟩
  rw [hqueue]
  exact ⟨htags.nodup, htags.room, htags.held, hreplies⟩

theorem State.queueSound_congr {u : State} (hs : s.queueSound = true) (hqueue : u.queue = s.queue)
    (hlink : u.link.replies = s.link.replies) : u.queueSound = true := by
  refine State.queueSound_link hs hqueue ?_
  rw [hlink]
  exact (s.queueSound_iff.mp hs).2.slots

theorem Change.keeps_queueSound (hs : s.queueSound = true) (h : Change s t) : t.queueSound = true := by
  have hslots := (s.queueSound_iff.mp hs).2.slots
  cases h with
  | reset => decide
  | warmRestart => rfl
  | link l hreplies =>
    refine State.queueSound_link hs rfl (Nat.le_trans ?_ hslots)
    exact Nat.add_le_add_right hreplies _
  | queueReply f hslot =>
    refine State.queueSound_link hs rfl ?_
    simp only [State.freeSlots, replySlots] at hslot
    simp only [State.queueReply, State.withLink_link, List.length_append, List.length_singleton]
    omega
  | accept => rw [State.acceptOrder_line]; exact hs
  | orderHead c hidle hwant =>
    unfold State.orderHead
    split
    · exact hs
    · rename_i e rest hfifo
      rw [State.acceptOrder_line]
      refine State.queueSound_setHead hs hfifo (by simp [Entry.ordered]) ?_
      simp [Entry.tagList, Entry.ordered]
  | orderSegment => rw [State.orderSegment_frame]; exact hs
  | complete verdict => exact State.queueSound_complete hs verdict
  | completeHead c r content => exact State.queueSound_completeHead hs c r content
  | awaitRetry c e rest hfifo => exact State.queueSound_setHead hs hfifo (by simp) rfl
  | takeRefresh n urgent x hold => exact State.queueSound_takeRefresh hs urgent hold
  | enqueue c kind n x hold hkind =>
    exact State.queueSound_enqueue hs hold fun hrefresh => absurd hrefresh hkind
  | removeTag e tag r hentry => exact State.queueSound_removeTag hs r hentry
  | own | beginSending | line | frameSent | sched | safeOff | safeOn | countdowns | outcome | imageUpdate
  | writeOutput | ages | offer | noticeTaken | resendReady | noticeRemoved | transfer | opened | cleared | filledWith
  | started | shadow | commitPending | applied => exact State.queueSound_congr hs rfl rfl

end Laws

end Sys2Proof.Machine

namespace Sys2Proof
open Machine

/-- Settles O54: each change of the queue keeps its shape and its tags, and a reply takes a free slot or a tag's. -/
theorem stepsKeepTheRequestQueueSound : Obligations.StepsKeepTheRequestQueueSound :=
  fun _ _ => step_keeps (P := fun s => s.queueSound = true) fun _ _ => Change.keeps_queueSound

end Sys2Proof
end

section
/-! PROOFS. The safe law and the lock on PASS, change by change (R96, R113, R119, R136, R137). -/

namespace Sys2Proof.Machine

/-! ### Where the PASS entries of a queue come from -/

/-- A PASS entry that was there before, where it stood, or in flight while SAFE is on; or a new one that SAFE and
the lock both let in (R84). -/
def State.PassFrom (s : State) (e : Entry) : Prop :=
  (∃ old ∈ s.queue.entries, old.kind = e.kind ∧ old.node = e.node ∧
    (s.sched.safe = true → e.phase = old.phase ∨ e.phase = .onLine)) ∨
  (s.sched.safe = false ∧ s.bulkActiveFor e.node = false)

section Entries
variable {s t : State}

theorem State.PassFrom.kept {e : Entry} (h : e ∈ s.queue.entries) : s.PassFrom e :=
  .inl ⟨e, h, rfl, rfl, fun _ => .inl rfl⟩

theorem ReqQueue.mem_entries_fifo {q : ReqQueue} {c : QueueClass} {e : Entry} (h : e ∈ q.fifo c) :
    e ∈ q.entries := by
  cases c with
  | urgent => exact List.mem_append_left _ h
  | normal => exact List.mem_append_right _ h

theorem ReqQueue.mem_entries_setFifo {q : ReqQueue} {c : QueueClass} {l : List Entry} {e : Entry}
    (h : e ∈ (q.setFifo c l).entries) : e ∈ l ∨ e ∈ q.entries := by
  cases c with
  | urgent => exact (List.mem_append.mp h).imp id (List.mem_append_right _)
  | normal => exact (List.mem_append.mp h).symm.imp id (List.mem_append_left _)

/-- A join or a promotion touches REFRESH entries alone (R87). -/
theorem State.mem_takeRefresh {n : Nat} {urgent : Bool} {x : TagSlot} {e : Entry}
    (h : e ∈ (s.takeRefresh n urgent x).queue.entries) : e ∈ s.queue.entries ∨ e.kind.isPass = false := by
  have refresh {y : Entry} (hy : y.joinable n = true) : y.kind.isPass = false := by
    simp only [Entry.joinable, Bool.and_eq_true, beq_iff_eq] at hy
    obtain ⟨⟨hkind, -⟩, -⟩ := hy
    rw [hkind]
    rfl
  have joined {l : List Entry} (he : e ∈ joinIn n x l) : e ∈ l ∨ e.kind.isPass = false := by
    obtain ⟨y, hy, rfl⟩ := List.mem_map.mp he
    split
    · rename_i hjoinable
      exact .inr (refresh hjoinable)
    · exact .inl hy
  unfold State.takeRefresh at h
  simp only [] at h
  split at h
  · rcases List.mem_append.mp h with h | h
    · exact (joined h).imp (List.mem_append_left _) id
    · exact .inl (List.mem_append_right _ h)
  · split at h
    · rename_i y hfind
      split at h
      · rcases List.mem_append.mp h with h | h
        · rcases List.mem_append.mp h with h | h
          · exact .inl (List.mem_append_left _ h)
          · rw [List.mem_singleton.mp h]
            have hpass := refresh (List.find?_some hfind)
            exact .inr hpass
        · exact .inl (List.mem_append_right _ (List.mem_of_mem_filter h))
      · rcases List.mem_append.mp h with h | h
        · exact .inl (List.mem_append_left _ h)
        · exact (joined h).imp (List.mem_append_right _) id
    · rcases ReqQueue.mem_entries_setFifo h with h | h
      · rcases List.mem_append.mp h with h | h
        · exact .inl (ReqQueue.mem_entries_fifo h)
        · rw [List.mem_singleton.mp h]
          exact .inr rfl
      · exact .inl h

/-- A removed tag leaves the entries that keep one where they stood (R93). -/
theorem State.mem_removeTag {e x : Entry} {tag : Byte} {r : Result} (h : x ∈ (s.removeTag e tag r).queue.entries) :
    ∃ old ∈ s.queue.entries, x = old.without tag := by
  have hqueue : (s.removeTag e tag r).queue = ⟨entriesWithout tag s.queue.urgent, entriesWithout tag s.queue.normal⟩ :=
    ReqQueue.dropTag_eq _ _
  rw [hqueue] at h
  rcases List.mem_append.mp h with h | h
  · obtain ⟨old, hold, rfl⟩ := List.mem_map.mp (List.mem_of_mem_filter h)
    exact ⟨old, List.mem_append_left _ hold, rfl⟩
  · obtain ⟨old, hold, rfl⟩ := List.mem_map.mp (List.mem_of_mem_filter h)
    exact ⟨old, List.mem_append_right _ hold, rfl⟩

/-- The head of a class changed, where its phase is one that SAFE lets it have. -/
theorem State.passFrom_setHead {c : QueueClass} {e e' x : Entry} {rest : List Entry}
    (hfifo : s.queue.fifo c = e :: rest) (hkind : e'.kind = e.kind) (hnode : e'.node = e.node)
    (hphase : e'.kind.isPass = true → s.sched.safe = true → e'.phase = .onLine) (hpass : x.kind.isPass = true)
    (h : x ∈ (s.setHead c e').queue.entries) : s.PassFrom x := by
  have hclass {y : Entry} (hy : y ∈ e :: rest) : y ∈ s.queue.entries :=
    ReqQueue.mem_entries_fifo (hfifo ▸ hy)
  rw [State.setHead, hfifo] at h
  rcases ReqQueue.mem_entries_setFifo h with h | h
  · rcases List.mem_cons.mp h with rfl | h
    · exact .inl ⟨e, hclass (by simp), hkind.symm, hnode.symm, fun hsafe => .inr (hphase hpass hsafe)⟩
    · exact .kept (hclass (List.mem_cons_of_mem e h))
  · exact .kept h

/-- Every PASS entry after a change was there before it, or was let in by it. -/
theorem Change.passFrom (h : Change s t) {x : Entry} (hx : x ∈ t.queue.entries) (hpass : x.kind.isPass = true) :
    s.PassFrom x := by
  cases h with
  | reset | warmRestart => cases hx
  | accept => rw [State.acceptOrder_line] at hx; exact .kept hx
  | orderHead c =>
    unfold State.orderHead at hx
    split at hx
    · exact .kept hx
    · rename_i e rest hfifo
      rw [State.acceptOrder_line] at hx
      exact State.passFrom_setHead (e' := e.ordered) hfifo rfl rfl (fun _ _ => rfl) hpass hx
  | orderSegment => rw [State.orderSegment_frame] at hx; exact .kept hx
  | complete verdict =>
    refine .kept ?_
    rcases List.mem_append.mp hx with hx | hx
    · exact List.mem_append_left _ (List.mem_of_mem_filter hx)
    · exact List.mem_append_right _ (List.mem_of_mem_filter hx)
  | completeHead c r content =>
    unfold State.completeHead at hx
    split at hx
    · exact .kept hx
    · rename_i e rest hfifo
      rcases ReqQueue.mem_entries_setFifo hx with hx | hx
      · exact .kept (ReqQueue.mem_entries_fifo (hfifo ▸ List.mem_cons_of_mem e hx))
      · exact .kept hx
  | awaitRetry c e rest hfifo hretry =>
    refine State.passFrom_setHead (e' := { e with phase := .retryPending }) hfifo rfl rfl (fun hkind hsafe => ?_)
      hpass hx
    rw [Bool.and_eq_false_iff] at hretry
    rcases hretry with hretry | hretry
    · exact absurd (hretry.symm.trans hkind) Bool.false_ne_true
    · exact absurd (hretry.symm.trans hsafe) Bool.false_ne_true
  | takeRefresh n urgent y hold =>
    rcases State.mem_takeRefresh hx with hx | hnot
    · exact .kept hx
    · exact absurd (hnot.symm.trans hpass) Bool.false_ne_true
  | enqueue c kind n y hold hkind hlets =>
    rcases List.mem_cons.mp ((s.queue.entries_enqueue_perm c _).subset hx) with rfl | hx
    · exact .inr (hlets hpass)
    · exact .kept hx
  | removeTag e tag r hentry =>
    obtain ⟨old, hold, rfl⟩ := State.mem_removeTag hx
    exact .inl ⟨old, hold, rfl, rfl, fun _ => .inl rfl⟩
  | own | link | queueReply | beginSending | line | frameSent | sched | safeOff | safeOn | countdowns | outcome
  | imageUpdate | writeOutput | ages | offer | noticeTaken | resendReady | noticeRemoved | transfer | opened | cleared
  | filledWith | started | shadow | commitPending | applied => exact .kept hx

end Entries

section Laws
variable {s t : State}

/-! ### The safe law (R136, R137) -/

theorem State.safeLaw_iff (s : State) :
    s.safeLaw = true ↔ (s.sched.safeBroadcast = true → s.sched.safe = true) ∧
      (s.sched.safe = true →
        s.bulk.state.moving = false ∧ s.queue.NoPassWant ∧ s.line.phase.withdrawn = none) := by
  have hlaw : s.safeLaw = ((!s.sched.safeBroadcast || s.sched.safe) && (!s.sched.safe || (!s.bulk.state.moving &&
      s.queue.entries.all (fun e => !e.kind.isPass || e.phase == .onLine) && s.line.phase.withdrawn.isNone))) := by
    unfold State.safeLaw
    cases s.bulk.state <;> rfl
  have hqueue : (s.queue.entries.all fun e => !e.kind.isPass || e.phase == .onLine) = true ↔ s.queue.NoPassWant := by
    rw [List.all_eq_true]
    refine forall₂_congr fun e _ => ?_
    rw [Entry.NoPassWant]
    cases e.kind.isPass <;> simp
  rw [hlaw]
  cases s.sched.safeBroadcast <;> cases s.sched.safe <;> simp [← hqueue, and_assoc]

/-- With SAFE off the law asks only for no broadcast request. -/
theorem State.safeLaw_of_off (hsafe : s.sched.safe = false) (hbroadcast : s.sched.safeBroadcast = false) :
    s.safeLaw = true :=
  (s.safeLaw_iff).mpr ⟨fun h => absurd (hbroadcast.symm.trans h) Bool.false_ne_true,
    fun h => absurd (hsafe.symm.trans h) Bool.false_ne_true⟩

/-- The entries that a law-abiding queue's PASS entries become are no wants. -/
theorem Change.keeps_noPassWant (h : Change s t) (hsafe : s.sched.safe = true) (hs : s.queue.NoPassWant) :
    t.queue.NoPassWant := by
  intro e he hpass
  rcases h.passFrom he hpass with ⟨old, hold, hkind, -, hphase⟩ | ⟨hoff, -⟩
  · rcases hphase hsafe with hphase | hphase
    · rw [hphase]
      exact hs old hold (hkind ▸ hpass)
    · exact hphase
  · exact absurd (hoff.symm.trans hsafe) Bool.false_ne_true

/-- A change that leaves SAFE, the transfer's movement and the orders to withdraw as they are. -/
theorem Change.keeps_safeLaw_of (hs : s.safeLaw = true) (h : Change s t) (hsafe : t.sched.safe = s.sched.safe)
    (hbroadcast : t.sched.safeBroadcast = true → s.sched.safeBroadcast = true)
    (hmoving : s.sched.safe = true → s.bulk.state.moving = false → t.bulk.state.moving = false)
    (hline : s.sched.safe = true → s.line.phase.withdrawn = none → t.line.phase.withdrawn = none) :
    t.safeLaw = true := by
  obtain ⟨hrequest, hon⟩ := s.safeLaw_iff.mp hs
  refine t.safeLaw_iff.mpr ⟨fun hset => hsafe ▸ hrequest (hbroadcast hset), fun hset => ?_⟩
  have hset' : s.sched.safe = true := hsafe ▸ hset
  obtain ⟨hstill, hqueue, hphase⟩ := hon hset'
  exact ⟨hmoving hset' hstill, h.keeps_noPassWant hset' hqueue, hline hset' hphase⟩

theorem LinePhase.withdrawn_of_allowed {o : Order} (h : o.request.allowedInSafe = true) (gap : Option Nat) :
    (LinePhase.gapWait o gap).withdrawn = none := by
  cases hrequest : o.request with
  | pass bytes => simp [hrequest, Request.allowedInSafe] at h
  | segment index last cancel data =>
    cases cancel with
    | true => simp only [LinePhase.withdrawn, hrequest]
    | false => simp [hrequest, Request.allowedInSafe] at h
  | exchange | status | safe => simp only [LinePhase.withdrawn, hrequest]

theorem State.acceptOrder_withdrawn {o : Order} (h : o.request.allowedInSafe = true) :
    (s.acceptOrder o).line.phase.withdrawn = none := by
  unfold State.acceptOrder
  split
  · exact LinePhase.withdrawn_of_allowed h _
  · split
    · rfl
    · exact LinePhase.withdrawn_of_allowed h _

theorem State.acceptOrder_sched (s : State) (o : Order) : (s.acceptOrder o).sched = s.sched := by
  rw [State.acceptOrder_line]
  rfl

theorem State.acceptOrder_bulk (s : State) (o : Order) : (s.acceptOrder o).bulk = s.bulk := by
  rw [State.acceptOrder_line]
  rfl

/-- The head ordered while SAFE is on is no PASS: the law leaves none a want (R96). -/
theorem State.orderHead_withdrawn {c : QueueClass} (hwant : s.headWant c = true) (hqueue : s.queue.NoPassWant) :
    (s.orderHead c).line.phase.withdrawn = none := by
  unfold State.headWant at hwant
  unfold State.orderHead
  cases hfifo : s.queue.fifo c with
  | nil => simp [hfifo] at hwant
  | cons e rest =>
    simp only [hfifo, bne_iff_ne] at hwant
    refine State.acceptOrder_withdrawn (EntryKind.request_allowedInSafe (Bool.eq_false_iff.mpr fun hpass => ?_))
    exact hwant (hqueue e (ReqQueue.mem_entries_fifo (hfifo ▸ List.mem_cons_self)) hpass)

theorem Change.keeps_safeLaw (hs : s.safeLaw = true) (h : Change s t) : t.safeLaw = true := by
  obtain ⟨hrequest, hon⟩ := s.safeLaw_iff.mp hs
  have hkeeps := fun hsafe => h.keeps_safeLaw_of hs hsafe
  cases h with
  | reset => decide
  | warmRestart | safeOff => exact State.safeLaw_of_off rfl rfl
  | safeOn hbulk hqueue hline => exact (State.safeLaw_iff _).mpr ⟨fun _ => rfl, fun _ => ⟨hbulk, hqueue, hline⟩⟩
  | accept o hidle hallowed =>
    refine hkeeps (by rw [State.acceptOrder_sched]) (by rw [State.acceptOrder_sched]; exact id)
      (by rw [State.acceptOrder_bulk]; exact fun _ => id) fun _ _ => State.acceptOrder_withdrawn hallowed
  | orderHead c hidle hwant =>
    refine hkeeps (by rw [State.orderHead_frame]; rfl) (by rw [State.orderHead_frame]; exact id)
      (by rw [State.orderHead_frame]; exact fun _ => id) fun hsafe _ => ?_
    obtain ⟨-, hqueue, -⟩ := hon hsafe
    exact State.orderHead_withdrawn hwant hqueue
  | orderSegment hidle hwant =>
    have hmoves : s.bulk.state.moving = true := by
      rw [State.segmentWant_running hwant]
      rfl
    have still (hsafe : s.sched.safe = true) : False := by
      obtain ⟨hstill, -, -⟩ := hon hsafe
      exact Bool.false_ne_true (hstill.symm.trans hmoves)
    exact hkeeps (by simp [State.orderSegment, State.acceptOrder_sched])
      (by simp [State.orderSegment, State.acceptOrder_sched]) (fun hsafe => (still hsafe).elim)
      fun hsafe => (still hsafe).elim
  | beginSending => exact hkeeps rfl id (fun _ => id) fun _ _ => rfl
  | line l hdirection hsending hwithdrawn => exact hkeeps rfl id (fun _ => id) fun _ => hwithdrawn
  | frameSent o outputSent =>
    exact hkeeps rfl id (fun _ => id) fun _ _ => (s.sentPhase_not_sending o outputSent).2
  | sched x hsafe hbroadcast => exact hkeeps hsafe hbroadcast (fun _ => id) fun _ => id
  | completeHead =>
    exact hkeeps (by rw [State.completeHead_frame]; rfl) (by rw [State.completeHead_frame]; exact id)
      (by rw [State.completeHead_frame]; exact fun _ => id) (by rw [State.completeHead_frame]; exact fun _ => id)
  | awaitRetry =>
    exact hkeeps (by rw [State.setHead_frame]; rfl) (by rw [State.setHead_frame]; exact id)
      (by rw [State.setHead_frame]; exact fun _ => id) (by rw [State.setHead_frame]; exact fun _ => id)
  | takeRefresh =>
    exact hkeeps (by rw [State.takeRefresh_frame]; rfl) (by rw [State.takeRefresh_frame]; exact id)
      (by rw [State.takeRefresh_frame]; exact fun _ => id) (by rw [State.takeRefresh_frame]; exact fun _ => id)
  | transfer b hsame =>
    refine hkeeps rfl id (fun hsafe hstill => Bool.eq_false_iff.mpr fun hmoves => ?_) fun _ => id
    rcases hsame.moving hmoves with hmoves | hoff
    · exact Bool.false_ne_true (hstill.symm.trans hmoves)
    · exact Bool.false_ne_true (hoff.symm.trans hsafe)
  | opened | cleared => exact hkeeps rfl id (fun _ _ => rfl) fun _ => id
  | started hrefusal =>
    have hoff := State.startRefusal_safe hrefusal
    exact hkeeps rfl id (fun hsafe => absurd (hoff.symm.trans hsafe) Bool.false_ne_true) fun _ => id
  | own | link | queueReply | countdowns | outcome | imageUpdate | writeOutput | ages | offer | noticeTaken
  | resendReady | noticeRemoved | complete | enqueue | removeTag | filledWith | shadow | commitPending | applied =>
    exact hkeeps rfl id (fun _ => id) fun _ => id

/-! ### The lock on PASS (R119) -/

theorem State.passLock_iff (s : State) :
    s.passLock = true ↔ ∀ n, s.bulk.node = some n → s.bulk.state.active = true → s.passHeldFor n = false := by
  unfold State.passLock
  cases hnode : s.bulk.node with
  | none => simp
  | some n =>
    simp only [Option.some.injEq, forall_eq']
    cases s.bulk.state.active <;> simp

theorem State.passHeldFor_false_iff (n : Nat) :
    s.passHeldFor n = false ↔ ∀ e ∈ s.queue.entries, e.kind.isPass = true → e.node ≠ n := by
  simp [State.passHeldFor]

/-- Where a transfer is active after a change it was so before, or is one that BULK_START found free of PASS entries
(R104). -/
theorem Change.transfer_active (h : Change s t) (hactive : t.bulk.state.active = true) :
    (s.bulk.state.active = true ∧ t.bulk.node = s.bulk.node) ∨
    (t.queue = s.queue ∧ ∀ n, t.bulk.node = some n → s.passHeldFor n = false) := by
  cases h with
  | reset | warmRestart | opened | cleared => cases hactive
  | accept => rw [State.acceptOrder_bulk] at hactive ⊢; exact .inl ⟨hactive, rfl⟩
  | orderHead => rw [State.orderHead_frame] at hactive ⊢; exact .inl ⟨hactive, rfl⟩
  | orderSegment => rw [State.orderSegment_frame] at hactive ⊢; exact .inl ⟨hactive, rfl⟩
  | completeHead => rw [State.completeHead_frame] at hactive ⊢; exact .inl ⟨hactive, rfl⟩
  | awaitRetry => rw [State.setHead_frame] at hactive ⊢; exact .inl ⟨hactive, rfl⟩
  | takeRefresh => rw [State.takeRefresh_frame] at hactive ⊢; exact .inl ⟨hactive, rfl⟩
  | transfer b hsame => exact .inl ⟨hsame.active hactive, hsame.node⟩
  | started hrefusal =>
    refine .inr ⟨rfl, fun n hnode => Bool.eq_false_iff.mpr fun hheld => ?_⟩
    have hnode' : s.bulk.node.getD 0 = n := by
      rw [show s.bulk.node = some n from hnode]
      rfl
    unfold State.startRefusal at hrefusal
    simp only [hnode', hheld, if_true] at hrefusal
    split_ifs at hrefusal
  | own | link | queueReply | beginSending | line | frameSent | sched | safeOff | safeOn | countdowns | outcome
  | imageUpdate | writeOutput | ages | offer | noticeTaken | resendReady | noticeRemoved | complete | enqueue
  | removeTag | filledWith | shadow | commitPending | applied => exact .inl ⟨hactive, rfl⟩

theorem Change.keeps_passLock (hs : s.passLock = true) (h : Change s t) : t.passLock = true := by
  rw [State.passLock_iff] at hs ⊢
  intro n hnode hactive
  rcases h.transfer_active hactive with ⟨hbefore, hsame⟩ | ⟨hqueue, hfree⟩
  · have hlock := hs n (hsame ▸ hnode) hbefore
    rw [State.passHeldFor_false_iff] at hlock ⊢
    intro e he hpass hen
    rcases h.passFrom he hpass with ⟨old, hold, hkind, hnodes, -⟩ | ⟨-, hlets⟩
    · exact hlock old hold (hkind ▸ hpass) (hnodes.trans hen)
    · rw [State.bulkActiveFor, hbefore, hen, ← hsame, hnode] at hlets
      simp at hlets
  · rw [State.passHeldFor, hqueue]
    exact hfree n hnode

end Laws

end Sys2Proof.Machine

namespace Sys2Proof
open Machine

/-- Settles O55: with SAFE on no PASS becomes a want, no transfer moves and no order that moves an output is
accepted. -/
theorem stepsKeepTheSafeLaw : Obligations.StepsKeepTheSafeLaw :=
  fun _ _ => step_keeps (P := fun s => s.safeLaw = true) fun _ _ => Change.keeps_safeLaw

/-- Settles O56: SENDING is entered and left with its direction, and both sides of the lock check the other. -/
theorem stepsKeepTheDirectionAndThePassLock : Obligations.StepsKeepTheDirectionAndThePassLock :=
  ⟨fun _ _ => step_keeps (P := fun s => s.line.sound = true) fun _ _ => Change.keeps_line_sound,
    fun _ _ => step_keeps (P := fun s => s.passLock = true) fun _ _ => Change.keeps_passLock⟩

end Sys2Proof
end

section
/-! PROOFS. The node and image records, change by change (R42, R45, R55, R61 to R63, R77). -/

namespace Sys2Proof.Machine

/-! ### One node's record -/

/-- The fail_count that goes with a health and an offline_threshold (R42, R45). -/
def Health.FailFits (h : Health) (fail threshold : Nat) : Prop :=
  match h with
  | .disabled | .online => fail = 0
  | .probing | .suspect => fail < threshold
  | .offline => fail = threshold

theorem NodeRt.sound_iff (r : NodeRt) (cfg : NodeConfig) :
    r.sound cfg = true ↔ (r.health = .disabled ↔ cfg.enabled = false) ∧
      r.health.FailFits r.failCount cfg.offlineThreshold.toNat := by
  unfold NodeRt.sound Health.FailFits
  cases r.health <;> cases cfg.enabled <;> simp

theorem NodeRt.sound_countdown {r : NodeRt} {cfg : NodeConfig} (hs : r.sound cfg = true) (c : Byte) :
    ({ r with countdown := c } : NodeRt).sound cfg = true := hs

/-- A valid reply leaves fail_count 0 and brings every enabled node ONLINE (R44). -/
theorem NodeRt.sound_afterReply {r : NodeRt} {cfg : NodeConfig} (hs : r.sound cfg = true) :
    r.afterReply.sound cfg = true := by
  rw [NodeRt.sound_iff] at hs ⊢
  obtain ⟨hdisabled, -⟩ := hs
  cases hhealth : r.health <;>
    simp_all [NodeRt.afterReply, Health.afterReply, Health.FailFits]

/-- A failure raises fail_count up to the threshold, where the node is OFFLINE (R45). -/
theorem NodeRt.sound_afterFailure {r : NodeRt} {cfg : NodeConfig} (hs : r.sound cfg = true)
    (hthreshold : 1 ≤ cfg.offlineThreshold.toNat) : (r.afterFailure cfg).sound cfg = true := by
  rw [NodeRt.sound_iff] at hs ⊢
  obtain ⟨hdisabled, hfits⟩ := hs
  cases hhealth : r.health with
  | disabled | offline => simp_all [NodeRt.afterFailure, NodeRt.raisedFail, Health.afterFailure, Health.FailFits]
  | online | suspect | probing =>
    simp only [hhealth, Health.FailFits] at hfits
    simp only [hhealth, reduceCtorEq, false_iff] at hdisabled
    have hraise : r.raisedFail cfg.offlineThreshold.toNat = r.failCount + 1 := if_neg (by omega)
    by_cases hbelow : r.failCount + 1 < cfg.offlineThreshold.toNat
    · simp [NodeRt.afterFailure, hraise, hhealth, Health.afterFailure, Health.FailFits, hbelow, hdisabled]
    · have hat : r.failCount + 1 = cfg.offlineThreshold.toNat := by omega
      simp [NodeRt.afterFailure, hraise, hhealth, Health.afterFailure, Health.FailFits, hdisabled, hat]

theorem NodeRt.sound_take {r : NodeRt} {cfg : NodeConfig} (hs : r.sound cfg = true)
    (hthreshold : 1 ≤ cfg.offlineThreshold.toNat) (o : LineOutcome) : (r.take cfg o).sound cfg = true := by
  have hcounted : (r.counted o.isFailure).sound cfg = true := hs
  unfold NodeRt.take
  simp only []
  cases o.isFailure with
  | true => exact NodeRt.sound_afterFailure hs hthreshold
  | false => exact NodeRt.sound_afterReply hs

/-- A kept node's fail_count is brought within the new threshold (R55). -/
theorem NodeRt.sound_align {r : NodeRt} {old new : NodeConfig} (hs : r.sound old = true)
    (holdEnabled : old.enabled = true) (hnew : new.enabled = true) (hthreshold : 1 ≤ new.offlineThreshold.toNat) :
    (r.align new).sound new = true := by
  rw [NodeRt.sound_iff] at hs ⊢
  obtain ⟨hdisabled, hfits⟩ := hs
  unfold NodeRt.align
  cases hhealth : r.health with
  | disabled => simp [hhealth, holdEnabled] at hdisabled
  | online | offline => simp_all [Health.FailFits]
  | probing | suspect =>
    simp only [hnew, Health.FailFits]
    refine ⟨by simp, ?_⟩
    split <;> omega

theorem NodeRt.sound_applied {r : NodeRt} {old new : NodeConfig} (hs : r.sound old = true)
    (hthreshold : 1 ≤ new.offlineThreshold.toNat) : (r.applied old new).sound new = true := by
  unfold NodeRt.applied
  split
  · rename_i hnew
    split
    · rename_i hkept
      exact NodeRt.sound_align hs (Bool.and_eq_true_iff.mp hkept).1 hnew hthreshold
    · refine (NodeRt.sound_iff _ _).mpr ⟨by simp [hnew], ?_⟩
      exact hthreshold
  · rename_i hnew
    rw [Bool.not_eq_true] at hnew
    split
    · exact (NodeRt.sound_iff _ _).mpr ⟨by simp [hnew], rfl⟩
    · rename_i hold
      rw [Bool.not_eq_true] at hold
      obtain ⟨hdisabled, hfits⟩ := (NodeRt.sound_iff _ _).mp hs
      have hhealth := hdisabled.mpr hold
      rw [NodeRt.sound_iff]
      rw [hhealth] at hfits ⊢
      exact ⟨by simp [hnew], hfits⟩

theorem NodeRt.sound_warm {cfg : NodeConfig} (hthreshold : 1 ≤ cfg.offlineThreshold.toNat) :
    (NodeRt.warm cfg).sound cfg = true := by
  rw [NodeRt.sound_iff]
  cases henabled : cfg.enabled with
  | true => exact ⟨by simp [NodeRt.warm, henabled], by
      simpa [NodeRt.warm, NodeRt.reset, henabled, Health.FailFits] using Nat.lt_of_lt_of_le Nat.zero_lt_one hthreshold⟩
  | false => exact ⟨by simp [NodeRt.warm, henabled], by simp [NodeRt.warm, henabled, Health.FailFits, NodeRt.reset]⟩

/-! ### One node's images -/

theorem Image.sound_iff (i : Image) (cfg : NodeConfig) :
    i.sound cfg = true ↔ i.data.length = cfg.inputLen.toNat ∧ i.outData.length = cfg.outputLen.toNat ∧
      (i.valid = false → i.age = 65535 ∧ i.status = 0) := by
  unfold Image.sound
  cases i.valid <;> simp [and_assoc]

theorem Image.sound_update {i : Image} {cfg : NodeConfig} (hs : i.sound cfg = true) {status : Byte}
    {block : List Byte} (hlength : block.length = cfg.inputLen.toNat) : (i.update status block).sound cfg = true := by
  obtain ⟨-, hout, -⟩ := (i.sound_iff cfg).mp hs
  exact (Image.sound_iff _ _).mpr ⟨hlength, hout, by simp [Image.update]⟩

theorem Image.sound_outputs {i : Image} {cfg : NodeConfig} (hs : i.sound cfg = true) {data : List Byte}
    (hlength : data.length = cfg.outputLen.toNat) :
    ({ i with outSet := true, outData := data } : Image).sound cfg = true := by
  obtain ⟨hin, -, hinvalid⟩ := (i.sound_iff cfg).mp hs
  exact (Image.sound_iff _ _).mpr ⟨hin, hlength, hinvalid⟩

theorem Image.sound_tick {i : Image} {cfg : NodeConfig} (hs : i.sound cfg = true) : i.tick.sound cfg = true := by
  obtain ⟨hin, hout, -⟩ := (i.sound_iff cfg).mp hs
  unfold Image.tick
  split
  · rename_i hvalid
    exact (Image.sound_iff _ _).mpr ⟨hin, hout, by simp [hvalid]⟩
  · exact hs

theorem Image.sound_reset (cfg : NodeConfig) :
    (Image.reset cfg.inputLen.toNat cfg.outputLen.toNat).sound cfg = true :=
  (Image.sound_iff _ _).mpr ⟨by simp [Image.reset], by simp [Image.reset], by simp [Image.reset]⟩

/-- Either record keeps its data, where the node and the length are kept, or gets as many bytes as it now has
(R77). -/
theorem Image.sound_applied {i : Image} {old new : NodeConfig} (hs : i.sound old = true) :
    (i.applied old new).sound new = true := by
  obtain ⟨hin, hout, hinvalid⟩ := (i.sound_iff old).mp hs
  have hinput (i1 : Image) (hi1 : i1 = if old.enabled && new.enabled && old.inputLen == new.inputLen then i
      else i.invalidate new.inputLen.toNat) :
      i1.data.length = new.inputLen.toNat ∧ i1.outData = i.outData ∧
        (i1.valid = false → i1.age = 65535 ∧ i1.status = 0) := by
    split at hi1
    · rename_i hkept
      simp only [Bool.and_eq_true, beq_iff_eq] at hkept
      rw [hi1]
      exact ⟨hkept.2 ▸ hin, rfl, hinvalid⟩
    · rw [hi1]
      exact ⟨by simp [Image.invalidate], rfl, fun _ => ⟨rfl, rfl⟩⟩
  obtain ⟨hdata, hsame, hstands⟩ := hinput _ rfl
  rw [Image.sound_iff]
  unfold Image.applied
  simp only []
  split
  · rename_i hkept
    simp only [Bool.and_eq_true, beq_iff_eq] at hkept
    exact ⟨hdata, by rw [hsame, hout, hkept.2], hstands⟩
  · exact ⟨hdata, by simp [Image.unset], hstands⟩

/-! ### Every node's records -/

section Laws
variable {s t : State}

/-- The threshold of node n in a copy of the tables. -/
def TableSet.threshold (x : TableSet) (n : Nat) : Nat :=
  (bankGet x.nodes NodeConfig.cleared n).offlineThreshold.toNat

/-- One node's part of the law. -/
structure State.NodeSound (s : State) (n : Nat) : Prop where
  record : (s.node n).sound (s.cfg n) = true
  image : (s.image n).sound (s.cfg n) = true
  active : 1 ≤ s.tables.active.threshold n
  shadow : 1 ≤ s.tables.shadow.threshold n

theorem State.recordsSound_iff (s : State) : s.recordsSound = true ↔ ∀ n, 1 ≤ n → n ≤ 30 → s.NodeSound n := by
  have haddrs (n : Nat) : n ∈ nodeAddrs ↔ 1 ≤ n ∧ n ≤ 30 := by
    simp only [nodeAddrs, List.mem_map, List.mem_range]
    exact ⟨by rintro ⟨k, hk, rfl⟩; omega, fun h => ⟨n - 1, by omega, by omega⟩⟩
  simp only [State.recordsSound, List.all_eq_true, Bool.and_eq_true, decide_eq_true_eq, haddrs]
  constructor
  · intro h n h1 h30
    obtain ⟨⟨⟨hrecord, himage⟩, hactive⟩, hshadow⟩ := h n ⟨h1, h30⟩
    exact ⟨hrecord, himage, hactive, hshadow⟩
  · rintro h n ⟨h1, h30⟩
    obtain ⟨hrecord, himage, hactive, hshadow⟩ := h n h1 h30
    exact ⟨⟨⟨hrecord, himage⟩, hactive⟩, hshadow⟩

theorem State.node_setNode (s : State) (m : Nat) (r : NodeRt) {n : Nat} (h1 : 1 ≤ n) (h30 : n ≤ 30) :
    (s.setNode m r).node n = if m = n then r else s.node n := by
  split
  · rename_i hmn
    subst hmn
    exact bankGet_bankSet_same _ _ _ h1 h30
  · rename_i hmn
    exact bankGet_bankSet_other _ _ _ hmn

theorem State.image_setImage (s : State) (m : Nat) (i : Image) {n : Nat} (h1 : 1 ≤ n) (h30 : n ≤ 30) :
    (s.setImage m i).image n = if m = n then i else s.image n := by
  split
  · rename_i hmn
    subst hmn
    exact bankGet_bankSet_same _ _ _ h1 h30
  · rename_i hmn
    exact bankGet_bankSet_other _ _ _ hmn

theorem State.NodeSound.setImage {n m : Nat} {i : Image} (hs : s.NodeSound n) (h1 : 1 ≤ n) (h30 : n ≤ 30)
    (hi : m = n → i.sound (s.cfg n) = true) : (s.setImage m i).NodeSound n := by
  refine ⟨hs.record, ?_, hs.active, hs.shadow⟩
  rw [State.image_setImage _ _ _ h1 h30]
  split
  · rename_i hmn
    exact hi hmn
  · exact hs.image

/-- The records change by countdowns, outcomes, image updates, output writes, ages, applications and resets, and each
leaves them in agreement with the configuration. -/
theorem Change.keeps_recordsSound (hs : s.recordsSound = true) (h : Change s t) : t.recordsSound = true := by
  have hnodes := s.recordsSound_iff.mp hs
  cases h with
  | reset => decide
  | warmRestart =>
    refine (State.recordsSound_iff _).mpr fun n h1 h30 => ?_
    have hn := hnodes n h1 h30
    refine ⟨?_, ?_, hn.active, hn.active⟩
    · rw [State.node, State.warmRestart, bankGet_tabulate _ _ h1 h30]
      exact NodeRt.sound_warm hn.active
    · rw [State.image, State.warmRestart, bankGet_tabulate _ _ h1 h30]
      exact Image.sound_reset _
  | countdowns v hrecords =>
    refine (State.recordsSound_iff _).mpr fun n h1 h30 => ?_
    have hn := hnodes n h1 h30
    obtain ⟨c, hc⟩ := hrecords n h1 h30
    refine ⟨?_, hn.image, hn.active, hn.shadow⟩
    rw [show (s.withNodes v).node n = { s.node n with countdown := c } from hc]
    exact NodeRt.sound_countdown hn.record c
  | outcome m o =>
    refine (State.recordsSound_iff _).mpr fun n h1 h30 => ?_
    have hn := hnodes n h1 h30
    refine ⟨?_, hn.image, hn.active, hn.shadow⟩
    rw [State.node_setNode _ _ _ h1 h30]
    split
    · rename_i hmn
      subst hmn
      exact NodeRt.sound_take hn.record hn.active o
    · exact hn.record
  | imageUpdate m status block hlength =>
    refine (State.recordsSound_iff _).mpr fun n h1 h30 => (hnodes n h1 h30).setImage h1 h30 ?_
    rintro rfl
    exact Image.sound_update (hnodes m h1 h30).image hlength
  | writeOutput m data hlength =>
    refine (State.recordsSound_iff _).mpr fun n h1 h30 => (hnodes n h1 h30).setImage h1 h30 ?_
    rintro rfl
    exact Image.sound_outputs (hnodes m h1 h30).image hlength
  | ages =>
    refine (State.recordsSound_iff _).mpr fun n h1 h30 => ?_
    have hn := hnodes n h1 h30
    refine ⟨hn.record, ?_, hn.active, hn.shadow⟩
    rw [State.image, State.withImages_images, bankGet_tabulate _ _ h1 h30]
    exact Image.sound_tick hn.image
  | shadow x hpending hfrom =>
    refine (State.recordsSound_iff _).mpr fun n h1 h30 => ?_
    have hn := hnodes n h1 h30
    refine ⟨hn.record, hn.image, hn.active, ?_⟩
    change 1 ≤ (bankGet x.nodes NodeConfig.cleared n).offlineThreshold.toNat
    rcases hfrom n h1 h30 with h | h | h
    · exact h
    · rw [h]
      exact hn.shadow
    · rw [h]
      exact hn.active
  | applied hpending =>
    refine (State.recordsSound_iff _).mpr fun n h1 h30 => ?_
    have hn := hnodes n h1 h30
    refine ⟨?_, ?_, hn.shadow, hn.shadow⟩
    · rw [State.node, State.recordsApplied, State.withImages_nodes, State.withNodes_nodes, bankGet_tabulate _ _ h1 h30]
      exact NodeRt.sound_applied hn.record hn.shadow
    · rw [State.image, State.recordsApplied, State.withImages_images, bankGet_tabulate _ _ h1 h30]
      exact Image.sound_applied hn.image
  | accept => rw [State.acceptOrder_line]; exact hs
  | orderHead => rw [State.orderHead_frame]; exact hs
  | orderSegment => rw [State.orderSegment_frame]; exact hs
  | completeHead => rw [State.completeHead_frame]; exact hs
  | awaitRetry => rw [State.setHead_frame]; exact hs
  | takeRefresh => rw [State.takeRefresh_frame]; exact hs
  | own | link | queueReply | beginSending | line | frameSent | sched | safeOff | safeOn | offer | noticeTaken
  | resendReady | noticeRemoved | complete | enqueue | removeTag | transfer | opened | cleared | filledWith | started
  | commitPending => exact hs

end Laws

end Sys2Proof.Machine

namespace Sys2Proof
open Machine

/-- Settles O58: each change of a node's records leaves them in agreement with its configuration. -/
theorem stepsKeepTheRecordsSound : Obligations.StepsKeepTheRecordsSound :=
  fun _ _ => step_keeps (P := fun s => s.recordsSound = true) fun _ _ => Change.keeps_recordsSound

end Sys2Proof
end

section
/-! PROOFS. What every event leaves: nothing due, and a settled transmitter (R121, R161, R171). -/

namespace Sys2Proof.Machine

section Settled
variable {s t : State}

/-! ### The transmitter after its choice (R171) -/

theorem State.txSettled_of_busy (h : s.link.tx ≠ .idle) : s.txSettled = true := by
  simp [State.txSettled, h]

theorem State.takeNotice_busy (h : s.notices.ready = true) : s.takeNotice.link.tx ≠ .idle := by
  have htaken : ∃ q f, s.noticeTaken = some (q, f) := by
    unfold NoticeQueue.ready at h
    unfold State.noticeTaken
    simp only []
    split at h
    · rename_i hflight
      cases hwaiting : s.notices.waiting with
      | nil => simp [hwaiting] at h
      | cons n rest => exact ⟨_, _, by rw [hflight]⟩
    · rename_i f hflight
      exact ⟨_, _, by rw [hflight]⟩
  obtain ⟨q, f, htaken⟩ := htaken
  unfold State.takeNotice
  rw [htaken]
  simp

theorem State.takeReply_busy (s : State) : s.takeReply.link.tx ≠ .idle := by
  simp [State.takeReply]

theorem State.txNext_settled (s : State) : s.txNext.txSettled = true := by
  unfold State.txNext
  split
  · rename_i hnotice
    simp only [Bool.and_eq_true, State.noticeTakable] at hnotice
    exact State.txSettled_of_busy (State.takeNotice_busy hnotice.1.1)
  · rename_i hnotice
    split
    · exact State.txSettled_of_busy s.takeReply_busy
    · rename_i hreply
      have hempty : s.link.replies.isEmpty = true := by simpa using hreply
      have hnone : s.noticeTakable = false := by simpa [hempty] using hnotice
      have hnone' : (s.withLink { s.link with replyRun := 0 }).noticeTakable = false := hnone
      simp only [State.txSettled, hnone', State.withLink_link, hempty, Bool.not_false, beq_self_eq_true,
        Bool.and_self, Bool.or_true]

theorem State.wake_txSettled (s : State) : s.wake.txSettled = true := by
  unfold State.wake
  split
  · rename_i hstill
    simp only [State.txSettled, hstill, Bool.true_or]
  · split
    · rename_i hboth
      simp only [Bool.and_eq_true, State.noticeTakable] at hboth
      split
      · exact State.txSettled_of_busy (State.takeNotice_busy (s := s.countChoice) hboth.1.1)
      · exact State.txSettled_of_busy (State.takeReply_busy _)
    · exact s.txNext_settled

/-- The end of an event leaves the transmitter settled. -/
theorem State.follow_txSettled (s : State) : s.follow.txSettled = true := State.wake_txSettled _

theorem State.close_txSettled (s : State) : s.close.txSettled = true := State.wake_txSettled _

theorem State.follow_decided (s : State) : s.follow.decided = true := by
  rw [State.follow, State.wake_decided]
  exact s.settle_decided

theorem State.txNext_decided (s : State) : s.txNext.decided = s.decided := by
  unfold State.txNext
  split
  · unfold State.takeNotice
    split <;> exact State.decided_congr rfl rfl rfl rfl rfl
  · split <;> exact State.decided_congr rfl rfl rfl rfl rfl

/-! ### Events that make nothing due -/

/-- With the line not IDLE nothing is due. -/
theorem State.decided_of_busy (h : s.line.phase.isIdle = false) : s.decided = true := by
  simp [State.decided, State.arbitrationDue, State.applicationDue, h]

/-- A line controller that is IDLE as before makes nothing due. -/
theorem State.decided_withLine {l : LineCtl} (h : l.phase.isIdle = s.line.phase.isIdle) :
    (s.withLine l).decided = s.decided := by
  unfold State.decided State.arbitrationDue State.applicationDue
  rw [State.withLine_line, h]
  rfl

/-- Another link port whose transmitter has as much left to take. -/
theorem State.txSettled_withLink {l : LinkPort} (htx : l.tx = s.link.tx) (hreplies : l.replies = s.link.replies)
    (hrun : l.replyRun = s.link.replyRun) (hrestart : l.restartPending = s.link.restartPending) :
    (s.withLink l).txSettled = s.txSettled := by
  simp only [State.txSettled, State.noticeTakable, State.withLink_link, State.withLink_notices,
    State.withLink_resetAsserted, htx, hreplies, hrun, hrestart]

/-- What an event leaves of a state with nothing due and a settled transmitter. -/
structure State.LeavesAtRest (s t : State) : Prop where
  decided : s.decided = true → t.decided = true
  settled : s.txSettled = true → t.txSettled = true

/-- A command that goes on leaves nothing due and the transmitter settled where it found them so. -/
def RestsAfter (s : State) (out : Out) : Prop := ∀ t, out = .next t → s.LeavesAtRest t

theorem RestsAfter.refused (r : Refusal) : RestsAfter s (.refused r) := by
  rintro t ⟨⟩

theorem RestsAfter.cannot (mnemonic : String) : RestsAfter s (cannot mnemonic) := .refused _

theorem RestsAfter.next (hdecided : s.decided = true → t.decided = true)
    (hsettled : s.txSettled = true → t.txSettled = true) : RestsAfter s (.next t) := by
  rintro u ⟨⟩
  exact ⟨hdecided, hsettled⟩

theorem RestsAfter.same (s : State) : RestsAfter s (.next s) := .next id id

theorem RestsAfter.follow (s t : State) : RestsAfter s (.next t.follow) :=
  .next (fun _ => t.follow_decided) fun _ => t.follow_txSettled

theorem RestsAfter.done (s t : State) : RestsAfter s (done t) :=
  .next (fun _ => t.close_decided) fun _ => t.close_txSettled

theorem RestsAfter.closeOut (s : State) (out : Out) : RestsAfter s (closeOut out) := by
  cases out with
  | next t => exact .done s t
  | fault f => rintro t ⟨⟩
  | refused r => exact .refused r

/-- The transmitter's choice after an effect that makes nothing due. -/
theorem RestsAfter.wake (h : s.decided = true → t.decided = true) : RestsAfter s (.next t.wake) :=
  .next (fun hs => t.wake_decided ▸ h hs) fun _ => t.wake_txSettled

/-- A change of the link port that leaves the transmitter what it has. -/
theorem RestsAfter.link {l : LinkPort} (htx : l.tx = s.link.tx) (hreplies : l.replies = s.link.replies)
    (hrun : l.replyRun = s.link.replyRun) (hrestart : l.restartPending = s.link.restartPending) :
    RestsAfter s (.next (s.withLink l)) :=
  .next (fun hs => (State.decided_congr rfl rfl rfl rfl rfl).trans hs)
    fun hs => (State.txSettled_withLink htx hreplies hrun hrestart).trans hs

/-- A change of the line controller that leaves it IDLE or not as it was. -/
theorem RestsAfter.line {l : LineCtl} (h : l.phase.isIdle = s.line.phase.isIdle) :
    RestsAfter s (.next (s.withLine l)) :=
  .next (fun hs => (State.decided_withLine h).trans hs) id

/-- A change of the line controller that leaves it not IDLE. -/
theorem RestsAfter.busy {l : LineCtl} (h : l.phase.isIdle = false) : RestsAfter s (.next (s.withLine l)) :=
  .next (fun _ => State.decided_of_busy h) id

/-- Every frame row ends its event, or is discarded (R167 to R169). -/
theorem RestsAfter.takeFrame (s : State) (mnemonic : String) (f : UpFrame) (handle : State → Out) :
    RestsAfter s (s.takeFrame mnemonic f handle) := by
  unfold State.takeFrame
  split
  · exact .same s
  · split
    · exact .cannot _
    · simp only []
      split
      · exact .link rfl rfl rfl rfl
      · split
        · exact .done s _
        · split
          · exact .done s _
          · exact .closeOut s _

end Settled

section Events
variable (s : State)

/-! ### The commands that are no frames -/

theorem execPowerOnReset_rests (upStrap downStrap : BitVec 2) :
    RestsAfter s (execPowerOnReset upStrap downStrap s) := .next (fun _ => rfl) fun _ => rfl

theorem execResetRelease_rests : RestsAfter s (execResetRelease s) := by
  unfold execResetRelease
  split
  · exact .wake fun hs => (State.decided_congr rfl rfl rfl rfl rfl).trans hs
  · exact .cannot _

theorem State.warmRestart_decided : s.warmRestart.decided = true := rfl

theorem execWarmRestartTakesEffect_rests : RestsAfter s (execWarmRestartTakesEffect s) := by
  unfold execWarmRestartTakesEffect
  split
  · exact .wake fun _ => s.warmRestart_decided
  · exact .cannot _

theorem execTimebaseTick_rests : RestsAfter s (execTimebaseTick s) := by
  unfold execTimebaseTick
  split
  · exact .cannot _
  · exact .next (fun hs => (State.decided_congr rfl rfl rfl rfl rfl).trans hs) id

theorem execHuntByte_rests (byte : Byte) (framingFault : Bool) :
    RestsAfter s (execHuntByte byte framingFault s) := by
  unfold execHuntByte
  split
  · exact .same s
  · split
    · split
      · exact .link rfl rfl rfl rfl
      · exact .cannot _
    · exact .cannot _

theorem execUpstreamByteCollected_rests (byte : Byte) : RestsAfter s (execUpstreamByteCollected byte s) := by
  unfold execUpstreamByteCollected
  split
  · exact .same s
  · split
    · split
      · exact .link rfl rfl rfl rfl
      · exact .cannot _
    · split
      · exact .cannot _
      · split
        · exact .link rfl rfl rfl rfl
        · exact .link rfl rfl rfl rfl
    · split
      · exact .cannot _
      · exact .link rfl rfl rfl rfl

theorem execUpstreamCharacterStart_rests : RestsAfter s (execUpstreamCharacterStart s) := by
  unfold execUpstreamCharacterStart
  split
  · exact .same s
  · split
    · exact .same s
    · exact .link rfl rfl rfl rfl
    · exact .link rfl rfl rfl rfl

theorem State.checkError_rests : RestsAfter s (.next s.checkError) := .link rfl rfl rfl rfl

theorem execUpstreamCheckError_rests (byte : Byte) (framingFault : Bool) :
    RestsAfter s (execUpstreamCheckError byte framingFault s) := by
  unfold execUpstreamCheckError
  split
  · exact .same s
  · split
    · exact .cannot _
    · split
      · exact s.checkError_rests
      · exact .cannot _
    · split
      · exact s.checkError_rests
      · exact .cannot _

theorem execUpstreamInterByteExpiry_rests : RestsAfter s (execUpstreamInterByteExpiry s) := by
  unfold execUpstreamInterByteExpiry
  split
  · exact .cannot _
  · split
    · exact s.checkError_rests
    · exact .cannot _
  · split
    · exact s.checkError_rests
    · exact .cannot _

/-- The end of a frame makes nothing due, and the transmitter takes its next frame or has none. -/
theorem RestsAfter.txNext {s : State} (l : LinkPort) : RestsAfter s (.next (s.withLink l).txNext) :=
  .next (fun hs => (State.txNext_decided _).trans ((State.decided_congr rfl rfl rfl rfl rfl).trans hs))
    fun _ => State.txNext_settled _

theorem execUpstreamFrameSent_rests : RestsAfter s (execUpstreamFrameSent s) := by
  unfold execUpstreamFrameSent
  split
  · exact .cannot _
  · split
    · exact .wake fun _ => s.warmRestart_decided
    · exact .txNext _
  · exact .txNext _

theorem execFrameWithUnknownCommand_rests (addr cmd tag : Byte) (payload : List Byte) :
    RestsAfter s (execFrameWithUnknownCommand addr cmd tag payload s) := by
  unfold execFrameWithUnknownCommand
  split
  · exact .cannot _
  · exact .takeFrame s _ _ _

theorem execNoticeResendTimerExpiry_rests : RestsAfter s (execNoticeResendTimerExpiry s) := by
  unfold execNoticeResendTimerExpiry
  split
  · exact .cannot _
  · split
    · exact .wake fun hs => (State.decided_congr rfl rfl rfl rfl rfl).trans hs
    · exact .cannot _

theorem execDeadlineExpiry_rests (tag : Byte) : RestsAfter s (execDeadlineExpiry tag s) := by
  unfold execDeadlineExpiry
  split
  · exact .cannot _
  · split
    · exact .done s _
    · exact .cannot _

theorem execMinPeriodWaitExpiry_rests : RestsAfter s (execMinPeriodWaitExpiry s) := by
  unfold execMinPeriodWaitExpiry
  split
  · exact .done s _
  · exact .cannot _

theorem execSilenceTimerExpiry_rests : RestsAfter s (execSilenceTimerExpiry s) := by
  unfold execSilenceTimerExpiry
  split
  · exact .done s _
  · exact .cannot _

theorem execBackoffExpiry_rests : RestsAfter s (execBackoffExpiry s) := by
  unfold execBackoffExpiry
  split
  · split
    · exact .done s _
    · exact .cannot _
  · exact .cannot _

theorem execArbitration_rests : RestsAfter s (execArbitration s) := by
  unfold execArbitration
  split
  · exact .follow s _
  · exact .same s

theorem execCommitApplication_rests : RestsAfter s (execCommitApplication s) := by
  unfold execCommitApplication
  split
  · exact .follow s _
  · split
    · exact .cannot _
    · exact .same s

theorem execGapTimerExpiry_rests : RestsAfter s (execGapTimerExpiry s) := by
  unfold execGapTimerExpiry
  split
  · split
    · exact .busy rfl
    · exact .cannot _
  · exact .cannot _

theorem execLastCharacterSent_rests : RestsAfter s (execLastCharacterSent s) := by
  unfold execLastCharacterSent
  split
  · rename_i o frame outputSent hphase
    split
    · exact .done s _
    · rename_i hreply
      refine .busy (l := (s.frameSent o outputSent).line) ?_
      change (s.sentPhase o outputSent).isIdle = false
      rw [State.sentPhase, if_neg hreply]
      rfl
  · split
    · refine .line ?_
      rcases s.gapAfterCut_cases with h | ⟨o, gap, gap', hphase, h⟩
      · simp only [h]
      · simp only [h, hphase, LinePhase.isIdle]
    · exact .cannot _

theorem LinePhase.charStarted_isIdle (p : LinePhase) : p.charStarted.isIdle = p.isIdle := by
  cases p <;> rfl

theorem execDownstreamCharacterStart_rests : RestsAfter s (execDownstreamCharacterStart s) := by
  unfold execDownstreamCharacterStart
  split
  · exact .same s
  · exact .line (LinePhase.charStarted_isIdle _)

theorem State.stray_rests : RestsAfter s (.next s.stray) := .line rfl

theorem execStrayByte_rests (byte : Byte) : RestsAfter s (execStrayByte byte s) := by
  unfold execStrayByte
  split
  · exact .same s
  · split
    · exact s.stray_rests
    · exact .busy rfl
    · exact s.stray_rests
    · split
      · exact .cannot _
      · exact s.stray_rests
    · exact .cannot _
    · exact .cannot _

theorem execReplySyncArrival_rests : RestsAfter s (execReplySyncArrival s) := by
  unfold execReplySyncArrival
  split
  · exact .same s
  · split
    · split
      · exact .busy rfl
      · exact s.stray_rests
    · exact .cannot _

theorem execReplyByteCollected_rests (byte : Byte) : RestsAfter s (execReplyByteCollected byte s) := by
  unfold execReplyByteCollected
  split
  · exact .same s
  · split
    · split
      · exact .cannot _
      · split
        · exact .busy rfl
        · exact .busy rfl
    · exact .busy rfl
    · exact .cannot _

theorem execReplyFrameReceived_rests (byte : Byte) : RestsAfter s (execReplyFrameReceived byte s) := by
  unfold execReplyFrameReceived
  split
  · exact .same s
  · split
    · split
      · exact .done s _
      · exact .cannot _
    · exact .cannot _

theorem execReplyTimerExpiry_rests : RestsAfter s (execReplyTimerExpiry s) := by
  unfold execReplyTimerExpiry
  split
  · split
    · exact .done s _
    · exact .cannot _
  · exact .cannot _

theorem execDownstreamInterByteExpiry_rests : RestsAfter s (execDownstreamInterByteExpiry s) := by
  unfold execDownstreamInterByteExpiry
  split
  · split
    · exact .done s _
    · exact .cannot _
  · split
    · exact .done s _
    · exact .cannot _
  · exact .cannot _

end Events

/-! ### Every command -/

/-- A command with a frame is the frame taken for its owner (R167 to R169). -/
theorem exec_upFrame {c : Instr} {f : UpFrame} (hframe : c.upFrame = some f) :
    ∃ (mnemonic : String) (handle : State → Out), ∀ s : State, exec c s = s.takeFrame mnemonic f handle := by
  cases c <;> cases hframe
  all_goals
    dsimp only [exec, execReadInput, execWriteOutput, execExchange, execPass, execProbe, execQueryStatus, execQueryNode,
    execReadCounters, execReadTable, execLoadLine, execLoadNodes, execLoadMain, execLoadInterleave,
    execSetLengths, execCommit, execDiscard, execStart, execStop, execSuspendCycle, execResumeCycle,
    execClearSafe, execRestartWarm, execCancel, execNoticeAck, execBulkOpen, execBulkData, execBulkStart,
    execBulkSuspend, execBulkResume, execBulkAbort, execBulkStatus, execBulkClear]
    exact ⟨_, _, fun _ => rfl⟩

theorem RestsAfter.upFrame {c : Instr} {f : UpFrame} (hframe : c.upFrame = some f) (s : State) :
    RestsAfter s (exec c s) := by
  obtain ⟨mnemonic, handle, hexec⟩ := exec_upFrame hframe
  rw [hexec]
  exact .takeFrame s _ _ _

theorem exec_rests (c : Instr) (s : State) : RestsAfter s (exec c s) := by
  cases c with
  | powerOnReset upStrap downStrap => exact execPowerOnReset_rests s upStrap downStrap
  | resetRelease => exact execResetRelease_rests s
  | warmRestartTakesEffect => exact execWarmRestartTakesEffect_rests s
  | timebaseTick => exact execTimebaseTick_rests s
  | huntByte byte framingFault => exact execHuntByte_rests s byte framingFault
  | upstreamByteCollected byte => exact execUpstreamByteCollected_rests s byte
  | upstreamCharacterStart => exact execUpstreamCharacterStart_rests s
  | upstreamCheckError byte framingFault => exact execUpstreamCheckError_rests s byte framingFault
  | upstreamInterByteExpiry => exact execUpstreamInterByteExpiry_rests s
  | upstreamFrameSent => exact execUpstreamFrameSent_rests s
  | frameWithUnknownCommand addr cmd tag payload =>
    exact execFrameWithUnknownCommand_rests s addr cmd tag payload
  | noticeResendTimerExpiry => exact execNoticeResendTimerExpiry_rests s
  | silenceTimerExpiry => exact execSilenceTimerExpiry_rests s
  | minPeriodWaitExpiry => exact execMinPeriodWaitExpiry_rests s
  | deadlineExpiry tag => exact execDeadlineExpiry_rests s tag
  | backoffExpiry => exact execBackoffExpiry_rests s
  | arbitration => exact execArbitration_rests s
  | commitApplication => exact execCommitApplication_rests s
  | gapTimerExpiry => exact execGapTimerExpiry_rests s
  | lastCharacterSent => exact execLastCharacterSent_rests s
  | downstreamCharacterStart => exact execDownstreamCharacterStart_rests s
  | strayByte byte => exact execStrayByte_rests s byte
  | replySyncArrival => exact execReplySyncArrival_rests s
  | replyByteCollected byte => exact execReplyByteCollected_rests s byte
  | replyFrameReceived byte => exact execReplyFrameReceived_rests s byte
  | replyTimerExpiry => exact execReplyTimerExpiry_rests s
  | downstreamInterByteExpiry => exact execDownstreamInterByteExpiry_rests s
  | readInput | writeOutput | exchange | pass | probe | queryStatus | queryNode | readCounters | readTable | loadLine
  | loadNodes | loadMain | loadInterleave | setLengths | commit | discard | start | stop | suspendCycle | resumeCycle
  | clearSafe | restartWarm | cancel | noticeAck | bulkOpen | bulkData | bulkStart | bulkSuspend | bulkResume
  | bulkAbort | bulkStatus | bulkClear => exact .upFrame rfl s

theorem step_leavesAtRest {s t : State} (h : step s = .next t) : s.LeavesAtRest t := by
  unfold step at h
  split at h
  · cases h
    exact ⟨id, id⟩
  · rename_i c rest _
    have hrest := exec_rests c { s with pending := rest } t h
    exact ⟨fun hs => hrest.decided ((State.decided_congr rfl rfl rfl rfl rfl).trans hs), hrest.settled⟩

end Sys2Proof.Machine

namespace Sys2Proof
open Machine

/-- Settles O59: every event that ends with the transmitter's choice settles it, and no other gives it a frame. -/
theorem stepsKeepTheTransmitterSettled : Obligations.StepsKeepTheTransmitterSettled :=
  fun _ _ hs hstep => (step_leavesAtRest hstep).settled hs

/-- Settles O60: the events that may make something due take it, and the others leave the line IDLE or not as it
was, with no want the more. -/
theorem stepsLeaveNothingDue : Obligations.StepsLeaveNothingDue :=
  fun _ _ hs hstep => (step_leavesAtRest hstep).decided hs

end Sys2Proof
end

section
/-! PROOFS. The queue of commands, the resets, and what every event takes (R121, R161, R164, R171, R174). -/

namespace Sys2Proof.Machine

section Wants
variable {s : State}

/-! ### The conditions of R121, R122 and R161 -/

theorem LinePhase.isIdle_iff {p : LinePhase} : p.isIdle = true ↔ p = .idle := by
  cases p <;> simp [LinePhase.isIdle]

theorem State.headWant_iff {cls : QueueClass} :
    s.headWant cls = true ↔ ∃ x rest, s.queue.fifo cls = x :: rest ∧ x.phase ≠ .onLine := by
  unfold State.headWant
  cases s.queue.fifo cls <;> simp

theorem State.cancelWant_iff :
    s.cancelWant = true ↔ s.bulk.cancel.isSome = true ∧ s.bulk.segPhase ≠ .onLine ∧ s.bulk.segPhase ≠ .detached ∧
      s.bulk.cancelOnLine = false := by
  simp [State.cancelWant, Bulk.noOrderHeld, and_assoc]

theorem State.segmentWant_iff :
    s.segmentWant = true ↔ s.bulk.state = .running ∧ (s.bulk.segPhase = .none ∨ s.bulk.segPhase = .retryPending) ∧
      s.bulk.nextIndex < s.bulk.segCount := by
  simp [State.segmentWant, and_assoc]

theorem State.scheduleWant_iff :
    s.scheduleWant = true ↔ s.sched.runState = .running ∧ s.sched.minWait = none ∧
      ¬ (s.sched.boundaryMark = true ∧ s.tables.commitPending = true) ∧
      (s.sched.ready.isSome = true ∨ ∃ a, s.sched.attached = some a ∧ a.retryPending = true) := by
  simp [State.scheduleWant, and_assoc, Option.any_eq_true, imp_iff_not_or]

theorem State.anyWant_iff :
    s.anyWant = true ↔ s.sched.safeBroadcast = true ∨ (∃ cls, s.headWant cls = true) ∨ s.cancelWant = true ∨
      s.segmentWant = true ∨ s.scheduleWant = true := by
  have hheads : (∃ cls, s.headWant cls = true) ↔ s.headWant .urgent = true ∨ s.headWant .normal = true :=
    ⟨fun ⟨cls, h⟩ => by cases cls <;> simp [h], fun h => h.elim (⟨_, ·⟩) (⟨_, ·⟩)⟩
  rw [hheads]
  simp only [State.anyWant, Bool.or_eq_true]
  tauto

theorem State.applicationDue_iff :
    s.applicationDue = true ↔ s.tables.commitPending = true ∧ s.line.phase = .idle ∧
      (s.sched.runState ≠ .running ∨ s.sched.boundaryMark = true) := by
  simp [State.applicationDue, LinePhase.isIdle_iff, and_assoc]

/-! ### One turn (R121, R161) -/

theorem State.turn_application (happ : s.applicationDue = true) (harb : s.arbitrationDue = false) :
    s.turn = s.apply := by
  simp [State.turn, happ, harb]

theorem State.turn_arbitration (happ : s.applicationDue = false) (harb : s.arbitrationDue = true) :
    s.turn = s.arbitrate := by
  simp [State.turn, happ, harb]

theorem State.turn_both (happ : s.applicationDue = true) (harb : s.arbitrationDue = true) :
    s.turn = s.countChoice.arbitrate ∨ s.turn = s.countChoice.apply := by
  simp only [State.turn, happ, harb, Bool.and_self, if_true]
  split
  · exact .inr rfl
  · exact .inl rfl

/-- After an arbitration or an application two turns do what three do. -/
theorem State.follow_of_turn_turn (h : s.turn.turn.decided = true) : s.follow = s.turn.turn.wake := by
  rw [State.follow, State.settle, State.turn_decided h]

/-- An event whose first turn is an arbitration goes on as the row ARBITRATION does. -/
theorem State.follow_of_turn_arbitrate {t : State} (hturn : s.turn = t.arbitrate) :
    s.follow = t.arbitrate.follow := by
  rw [State.follow_of_turn_turn (State.turn_turn_decides t.arbitrate_not_due), State.follow, State.settle, hturn]

theorem State.apply_turn_decided (s : State) : s.apply.turn.decided = true :=
  State.turn_decides_of_none (by rw [State.apply_tables]; rfl)

/-- An event whose first turn is an application goes on as the row COMMIT_APPLICATION does. -/
theorem State.follow_of_turn_apply {t : State} (hturn : s.turn = t.apply) : s.follow = t.apply.follow := by
  have hdecided := t.apply_turn_decided
  rw [State.follow, State.settle, hturn, State.follow, State.settle, State.turn_decided hdecided,
    State.turn_decided hdecided]

/-! ### The two rows by themselves -/

theorem exec_arbitration (s : State) : exec .arbitration s = execArbitration s := rfl

theorem exec_arbitration_idle (h : s.line.phase.isIdle = true) : exec .arbitration s = .next s.arbitrate.follow := by
  rw [exec_arbitration, execArbitration, if_pos h]

theorem exec_arbitration_busy (h : s.line.phase ≠ .idle) : exec .arbitration s = .next s := by
  rw [exec_arbitration, execArbitration, if_neg fun hidle => h (LinePhase.isIdle_iff.mp hidle)]

theorem State.isIdle_of_arbitrationDue (h : s.arbitrationDue = true) : s.line.phase.isIdle = true := by
  simp only [State.arbitrationDue, Bool.and_eq_true] at h
  exact h.1

theorem exec_commitApplication_due (h : s.applicationDue = true) :
    exec .commitApplication s = .next s.apply.follow := by
  change execCommitApplication s = _
  rw [execCommitApplication, if_pos h]

theorem exec_commitApplication_early (hpending : s.tables.commitPending = true) (h : s.applicationDue = false) :
    exec .commitApplication s = .refused (.cannotOccur "COMMIT_APPLICATION") := by
  change execCommitApplication s = _
  rw [execCommitApplication, if_neg (by simp [h]), if_pos hpending]
  rfl

theorem exec_commitApplication_none (hpending : s.tables.commitPending = false) :
    exec .commitApplication s = .next s := by
  change execCommitApplication s = _
  rw [execCommitApplication, if_neg (by simp [State.applicationDue, hpending]), if_neg (by simp [hpending])]

end Wants

/-! ### The IDLE transmitter's choice (R171) -/

section Transmitter
variable {s : State}

theorem State.wake_unmoved (h : s.link.tx ≠ .idle ∨ s.resetAsserted = true ∨ s.txSettled = true) : s.wake = s := by
  rcases h with htx | hreset | hsettled
  · exact State.wake_sending htx
  · exact State.wake_settled (by simp [State.txSettled, hreset])
  · exact State.wake_settled hsettled

theorem State.wake_reply (htx : s.link.tx = .idle) (hreset : s.resetAsserted = false) (hreplies : s.link.replies ≠ [])
    (hnotice : s.noticeTakable = false) : s.wake = s.takeReply := by
  simp [State.wake, State.txNext, htx, hreset, hreplies, hnotice]

theorem State.wake_either (htx : s.link.tx = .idle) (hreset : s.resetAsserted = false)
    (hreplies : s.link.replies ≠ []) (hnotice : s.noticeTakable = true) :
    s.wake = s.countChoice.takeReply ∨ s.wake = s.countChoice.takeNotice := by
  simp only [State.wake, htx, hreset, hnotice, bne_self_eq_false, Bool.or_self, Bool.false_eq_true, if_false,
    Bool.true_and, Bool.not_eq_true', List.isEmpty_eq_false_iff, hreplies, ne_eq, not_false_eq_true, if_true]
  split
  · exact .inr rfl
  · exact .inl rfl

theorem State.wake_notice (htx : s.link.tx = .idle) (hreset : s.resetAsserted = false) (hreplies : s.link.replies = [])
    (hnotice : s.noticeTakable = true) : s.wake = s.takeNotice := by
  simp [State.wake, State.txNext, htx, hreset, hreplies, hnotice]

/-- The first send of the oldest waiting notice (R145, R147). -/
theorem State.takeNotice_first {w : Notice} {rest : List Notice} (hflight : s.notices.inFlight = none)
    (hwaiting : s.notices.waiting = w :: rest) :
    s.takeNotice = { s with
      notices := { s.notices with
        inFlight := some ⟨s.fixNotice w, s.notices.sequence, some (s.now + s.tables.active.line.noticeResend.toNat)⟩
        waiting := rest
        sequence := s.notices.sequence + 1 }
      link := { s.link with
        tx := .sendingNotice ⟨0x80, 0xE0, s.notices.sequence, (s.fixNotice w).payload⟩, replyRun := 0 } } := by
  simp only [State.takeNotice, State.noticeTaken, hflight, hwaiting]
  rfl

/-- Right after a reset the RESTART notice goes out. -/
theorem State.wake_restart {reason : RestartReason} {sequence : Byte} (htx : s.link.tx = .idle)
    (hreset : s.resetAsserted = false) (hreplies : s.link.replies = []) (hpending : s.link.restartPending = none)
    (hnotices : s.notices = ⟨none, [.restart reason], sequence, 0, false⟩) :
    s.wake = { s with
      notices := ⟨some ⟨.restart reason, sequence, some (s.now + s.tables.active.line.noticeResend.toNat)⟩, [],
        sequence + 1, 0, false⟩
      link := { s.link with
        tx := .sendingNotice ⟨0x80, 0xE0, sequence, [0x01, 0x00, reason.code]⟩, replyRun := 0 } } := by
  have hnotice : s.noticeTakable = true := by
    rw [State.noticeTakable, hnotices, hpending]
    rfl
  rw [State.wake_notice htx hreset hreplies hnotice,
    State.takeNotice_first (by rw [hnotices]) (by rw [hnotices])]
  simp only [hnotices]
  rfl

end Transmitter

/-! ### The warm restart (R174) -/

theorem execUpstreamFrameSent_restart {s : State} (htx : s.link.tx = .sendingReply)
    (hpending : s.link.restartPending = some 1) :
    exec .warmRestartTakesEffect s = .next s.warmRestart.wake ∧ exec .upstreamFrameSent s = .next s.warmRestart.wake := by
  have hsending : s.sendingRestartReply = true := by simp [State.sendingRestartReply, htx, hpending]
  change execWarmRestartTakesEffect s = _ ∧ execUpstreamFrameSent s = _
  simp only [execWarmRestartTakesEffect, execUpstreamFrameSent, htx, hsending, if_true, and_self]

end Sys2Proof.Machine

namespace Sys2Proof
open Machine

/-- Settles O1, by the front of the queue. -/
theorem stepRunsTheFrontCommand : Obligations.StepRunsTheFrontCommand := fun _ _ _ => rfl

/-- Settles O2: the power-on state by its fields, and the release by the RESTART notice that an IDLE transmitter
takes. -/
theorem powerOnResetAndItsRelease : Obligations.PowerOnResetAndItsRelease := by
  refine ⟨fun _ _ _ => rfl, fun s hreset htx hreplies hpending hnotices => ?release⟩
  case release =>
    have hwake := State.wake_restart
      (s := ({ s with resetAsserted := false } : State).withLine { s.line with quietSince := s.now })
      htx rfl hreplies hpending hnotices
    change execResetRelease s = _
    rw [execResetRelease, if_pos hreset, hwake]
    rfl

/-- Settles O3: both rows take the warm restart, whose link port is IDLE with the RESTART notice to send. -/
theorem warmRestartLeavesTheWarmValues : Obligations.WarmRestartLeavesTheWarmValues := by
  intro s hreset htx hpending t
  have hwake : s.warmRestart.wake = t := by
    rw [State.wake_restart (s := s.warmRestart) rfl hreset rfl rfl rfl]
    simp only [State.warmRestart, hreset]
    rfl
  rw [← hwake]
  exact execUpstreamFrameSent_restart htx hpending

/-- Settles O4: the rows are the turns of an event, of which two are enough after the first. -/
theorem eventsTakeWhatTheyMakeDue : Obligations.EventsTakeWhatTheyMakeDue := by
  intro s counted
  refine ⟨State.applicationDue_iff, ?arbitrationDue, ?decided, ?neither, ?arbitration, ?application, ?both,
    s.follow_decided, exec_arbitration_busy, exec_commitApplication_none, exec_commitApplication_early, rfl,
    State.wake_unmoved, ?reply, State.wake_notice, fun w rest hflight hwaiting => State.takeNotice_first hflight hwaiting⟩
  case arbitrationDue =>
    rw [State.arbitrationDue, Bool.and_eq_true, LinePhase.isIdle_iff, State.anyWant_iff, State.cancelWant_iff,
      State.segmentWant_iff, State.scheduleWant_iff]
    simp only [State.headWant_iff]
  case decided => exact s.decided_iff.trans And.comm
  case neither => exact fun happ harb => State.follow_of_decided (s.decided_iff.mpr ⟨harb, happ⟩)
  case arbitration =>
    intro happ harb
    rw [exec_arbitration_idle (State.isIdle_of_arbitrationDue harb),
      State.follow_of_turn_arbitrate (State.turn_arbitration happ harb)]
  case application =>
    intro happ harb
    rw [exec_commitApplication_due happ, State.follow_of_turn_apply (State.turn_application happ harb)]
  case both =>
    intro happ harb
    rcases State.turn_both happ harb with hturn | hturn
    · left
      rw [State.follow_of_turn_arbitrate hturn]
      exact exec_arbitration_idle (s := counted) (State.isIdle_of_arbitrationDue harb)
    · right
      rw [State.follow_of_turn_apply hturn]
      exact exec_commitApplication_due (s := counted) happ
  case reply =>
    intro htx hreset hreplies
    exact ⟨State.wake_reply htx hreset hreplies, State.wake_either htx hreset hreplies⟩

/-- Settles O51, by evaluation of the reset state. -/
theorem resetMeetsTheLaws : Obligations.ResetMeetsTheLaws := by
  unfold Obligations.ResetMeetsTheLaws
  decide

end Sys2Proof
end

section
/-! PROOFS. The upstream receiver's characters, and the frames that the link port discards or refuses (R83, R166 to
R169, R174). -/

namespace Sys2Proof.Machine

/-! ### Characters of the receiver (R166) -/

section Receiver
variable {s : State}

theorem exec_huntByte {byte : Byte} {fault : Bool} (hreset : s.resetAsserted = false) (hrx : s.link.rx = .hunt)
    (h : byte ≠ upSync ∨ fault = true) : exec (.huntByte byte fault) s = .next (s.countLink countHunt) := by
  change execHuntByte byte fault s = _
  simp [execHuntByte, hreset, hrx, h]

theorem exec_byteCollected_sync (hreset : s.resetAsserted = false) (hrx : s.link.rx = .hunt) :
    exec (.upstreamByteCollected 0x5A) s = .next (s.setRx (.header [] s.upTimer)) := by
  change execUpstreamByteCollected 0x5A s = _
  simp [execUpstreamByteCollected, hreset, hrx, upSync]

theorem exec_byteCollected_header {byte : Byte} {got : List Byte} {timer : Option Nat}
    (hreset : s.resetAsserted = false) (hrx : s.link.rx = .header got timer)
    (hlen : got = [] → lenOk byte = true) :
    exec (.upstreamByteCollected byte) s = .next (s.setRx
      (if got.length + 1 < 4 then .header (got ++ [byte]) s.upTimer else .body (got ++ [byte]) s.upTimer)) := by
  have hgoes : (got.isEmpty && !lenOk byte) = false := by
    cases got with
    | nil => simp [hlen rfl]
    | cons b more => rfl
  change execUpstreamByteCollected byte s = _
  simp only [execUpstreamByteCollected, hreset, hrx, hgoes, Bool.false_eq_true, if_false]
  by_cases hfew : got.length + 1 < 4
  · simp only [hfew, if_true]
  · simp only [hfew, if_false]

theorem exec_byteCollected_body {byte : Byte} {got : List Byte} {timer : Option Nat}
    (hreset : s.resetAsserted = false) (hrx : s.link.rx = .body got timer) (hlast : upLastByte got = false) :
    exec (.upstreamByteCollected byte) s = .next (s.setRx (.body (got ++ [byte]) s.upTimer)) := by
  change execUpstreamByteCollected byte s = _
  simp [execUpstreamByteCollected, hreset, hrx, hlast]

/-- The receiver after the start of a character: its inter-byte timer stopped. -/
def RxPhase.charStarted : RxPhase → RxPhase
  | .hunt => .hunt
  | .header got _ => .header got none
  | .body got _ => .body got none

theorem exec_characterStart (hreset : s.resetAsserted = false) :
    exec .upstreamCharacterStart s = .next (s.setRx s.link.rx.charStarted) := by
  change execUpstreamCharacterStart s = _
  rw [execUpstreamCharacterStart, if_neg (by simp [hreset])]
  cases hrx : s.link.rx with
  | hunt => simp only [RxPhase.charStarted, ← hrx]; rfl
  | header got timer => rfl
  | body got timer => rfl

/-- A fault, a LEN out of range, or a check pair that differs. -/
theorem exec_checkError_header {byte : Byte} {fault : Bool} {got : List Byte} {timer : Option Nat}
    (hreset : s.resetAsserted = false) (hrx : s.link.rx = .header got timer)
    (h : fault = true ∨ got = [] ∧ lenOk byte = false) :
    exec (.upstreamCheckError byte fault) s = .next s.checkError := by
  change execUpstreamCheckError byte fault s = _
  simp [execUpstreamCheckError, hreset, hrx, h]

theorem exec_checkError_body {byte : Byte} {fault : Bool} {got : List Byte} {timer : Option Nat}
    (hreset : s.resetAsserted = false) (hrx : s.link.rx = .body got timer)
    (h : fault = true ∨ upLastByte got = true ∧ checkAgrees got byte = false) :
    exec (.upstreamCheckError byte fault) s = .next s.checkError := by
  change execUpstreamCheckError byte fault s = _
  simp [execUpstreamCheckError, hreset, hrx, h]

theorem exec_upstreamInterByteExpiry_due {got : List Byte} {t : Nat}
    (hrx : s.link.rx = .header got (some t) ∨ s.link.rx = .body got (some t)) (hdue : t ≤ s.now) :
    exec .upstreamInterByteExpiry s = .next s.checkError := by
  change execUpstreamInterByteExpiry s = _
  rcases hrx with hrx | hrx <;> simp [execUpstreamInterByteExpiry, hrx, State.dueOpt, State.due, hdue]

theorem upLastByte_cons (len : Byte) (rest : List Byte) :
    upLastByte (len :: rest) = (rest.length == len.toNat + 1) := rfl

/-- The check pair agrees exactly when the last two bytes are the pair. -/
theorem checkAgrees_append {covered : List Byte} {a byte : Byte} :
    checkAgrees (covered ++ [a]) byte = ([a, byte] == [(checkPair covered).1, (checkPair covered).2]) := by
  rw [checkAgrees, List.dropLast_concat, withCheck, List.append_assoc, Bool.eq_iff_iff]
  simp

end Receiver

/-! ### Frames discarded or refused (R83, R168, R169) -/

/-- A row that stands for a valid frame is the frame taken for an owner. -/
theorem exec_frameRow {c : Instr} {f : UpFrame}
    (hframe : c.upFrame = some f ∨ (c = .frameWithUnknownCommand f.addr f.cmd f.tag f.payload ∧
      (addressRefusal f.addr f.cmd).isSome = true)) :
    ∃ (mnemonic : String) (handle : State → Out), ∀ s : State, exec c s = s.takeFrame mnemonic f handle := by
  rcases hframe with hframe | ⟨rfl, hrefusal⟩
  · exact exec_upFrame hframe
  · refine ⟨"FRAME_WITH_UNKNOWN_COMMAND", fun _ => cannot "FRAME_WITH_UNKNOWN_COMMAND", fun s => ?_⟩
    change execFrameWithUnknownCommand f.addr f.cmd f.tag f.payload s = _
    rw [execFrameWithUnknownCommand, if_neg]
    rw [Option.isNone_eq_false_iff.mpr hrefusal, Bool.and_false]
    exact Bool.false_ne_true

/-- A frame that passes the dispatch with an outstanding tag is answered TAG_IN_USE (R83). -/
theorem State.takeFrame_tagInUse {s : State} {f : UpFrame} (mnemonic : String) (handle : State → Out)
    (hdispatches : s.dispatches f = true) (hsettled : s.txSettled = true) (hdecided : s.decided = true)
    (hrefusal : dispatchRefusal true f.addr f.cmd f.payload = none) (htag : f.tag ∈ s.outstanding) :
    s.takeFrame mnemonic f handle = .next (s.answered f .tagInUse []) := by
  simp only [State.dispatches, Bool.and_eq_true, Bool.not_eq_true', bne_iff_ne, ne_eq,
    Option.isNone_iff_eq_none] at hdispatches
  obtain ⟨⟨⟨hreset, hfits⟩, hpending⟩, hslots⟩ := hdispatches
  have hkept : (s.frameCounted.link.restartPending.isSome || s.frameCounted.freeSlots == 0) = false := by
    change (s.link.restartPending.isSome || s.freeSlots == 0) = false
    simp [hpending, hslots]
  have hrefusal' : dispatchRefusal (Config.badValueFirst s.frameCounted.choices) f.addr f.cmd f.payload = none :=
    dispatchRefusal_none true _ (by rw [hrefusal]; rfl)
  have htag' : s.frameCounted.outstanding.contains f.tag = true := List.contains_iff_mem.mpr htag
  have htaken : s.takeFrame mnemonic f handle = done (s.heard.answer f .tagInUse []) := by
    simp only [State.takeFrame, hreset, hfits, hkept, hrefusal', htag', if_true]
    rfl
  have hclose := State.close_answer_decided f .tagInUse [] hsettled hreset (u := s.heard) rfl rfl hreset
    ((State.decided_congr rfl rfl rfl rfl rfl).trans hdecided)
  rw [htaken]
  exact congrArg Host.Outcome.next hclose

theorem dispatchRefusal_of_address {first : Bool} {addr cmd : Byte} {payload : List Byte} {r : Result}
    (h : addressRefusal addr cmd = some r) : dispatchRefusal first addr cmd payload = some r := by
  rw [dispatchRefusal, h]

/-- A frame that steps 1 to 3 refuse is answered with the refusal (R169). -/
theorem exec_unknownCommand_refused {s : State} {addr cmd tag : Byte} {payload : List Byte} {r : Result}
    (hdispatches : s.dispatches ⟨addr, cmd, tag, payload⟩ = true) (hsettled : s.txSettled = true)
    (hdecided : s.decided = true) (hrefusal : addressRefusal addr cmd = some r) :
    exec (.frameWithUnknownCommand addr cmd tag payload) s =
      .next { s.answered ⟨addr, cmd, tag, payload⟩ r [] with choices := s.choices + 1 } := by
  obtain ⟨mnemonic, handle, hexec⟩ := exec_frameRow (c := .frameWithUnknownCommand addr cmd tag payload)
    (f := ⟨addr, cmd, tag, payload⟩) (.inr ⟨rfl, by rw [hrefusal]; rfl⟩)
  rw [hexec]
  exact State.takeFrame_dispatch_refuses mnemonic handle hdispatches hsettled hdecided
    (dispatchRefusal_of_address hrefusal)

end Sys2Proof.Machine

namespace Sys2Proof
open Machine

/-- Settles O5, by the receiver's phase. -/
theorem receiverHuntsAndCollects : Obligations.ReceiverHuntsAndCollects := by
  intro s byte fault got timer hreset restarted
  refine ⟨exec_huntByte hreset, exec_byteCollected_sync hreset, ?len, ?header, ?lastHeader, ?body, ?hunt, ?stopHeader,
    ?stopBody⟩
  case len =>
    rintro hrx rfl hlow hhigh
    exact exec_byteCollected_header hreset hrx fun _ => by simp [lenOk, hlow, hhigh]
  case header =>
    intro hrx hsome hfew
    have hcollect := exec_byteCollected_header (byte := byte) hreset hrx fun h => by simp [h] at hsome
    rwa [if_pos (by omega)] at hcollect
  case lastHeader =>
    intro hrx hthree
    have hcollect := exec_byteCollected_header (byte := byte) hreset hrx fun h => by simp [h] at hthree
    rwa [if_neg (by omega)] at hcollect
  case body =>
    intro len rest hrx hfew
    exact exec_byteCollected_body hreset hrx (beq_eq_false_iff_ne.mpr (by omega))
  case hunt =>
    intro hrx
    rw [exec_characterStart hreset, hrx, RxPhase.charStarted, ← hrx]
    rfl
  case stopHeader =>
    intro hrx
    rw [exec_characterStart hreset, hrx]
    rfl
  case stopBody =>
    intro hrx
    rw [exec_characterStart hreset, hrx]
    rfl

/-- Settles O6: each breach is a check error, the check pair compared byte by byte. -/
theorem brokenUpstreamFramesAreCheckErrors : Obligations.BrokenUpstreamFramesAreCheckErrors := by
  intro s byte a len rest got timer t after
  refine ⟨fun hreset hrx hlen => ?len, fun hreset hrx => ?fault, fun hreset hrx hfull hpair => ?pair,
    exec_upstreamInterByteExpiry_due⟩
  case len =>
    exact exec_checkError_header hreset hrx (.inr ⟨rfl, by simp [lenOk]; omega⟩)
  case fault =>
    rcases hrx with hrx | hrx
    · exact exec_checkError_header hreset hrx (.inl rfl)
    · exact exec_checkError_body hreset hrx (.inl rfl)
  case pair =>
    refine exec_checkError_body hreset hrx (.inr ⟨?_, ?_⟩)
    · rw [List.cons_append, upLastByte_cons]
      simp [hfull]
    · rw [checkAgrees_append]
      exact beq_eq_false_iff_ne.mpr hpair

/-- Settles O7: every row is its frame taken, and the frame is discarded, refused or found with a tag in use. -/
theorem framesAreDiscardedOrRefused : Obligations.FramesAreDiscardedOrRefused := by
  refine ⟨fun c f s hframe => ?rows, ?steps⟩
  case rows =>
    obtain ⟨mnemonic, handle, hexec⟩ := exec_frameRow hframe
    simp only [hexec]
    exact ⟨State.takeFrame_discards mnemonic handle,
      fun r => State.takeFrame_dispatch_refuses mnemonic handle, State.takeFrame_tagInUse mnemonic handle⟩
  case steps =>
    intro s addr cmd tag payload f refused hdispatches hsettled hdecided
    have refuses {r : Result} (hrefusal : addressRefusal addr cmd = some r) :
        exec (.frameWithUnknownCommand addr cmd tag payload) s = .next (refused r) :=
      exec_unknownCommand_refused hdispatches hsettled hdecided hrefusal
    refine ⟨fun hhigh => refuses (if_pos hhigh), fun hlow hcode => refuses ?_, fun c hlow hcode haddr => refuses ?_⟩
    · rw [addressRefusal, if_neg (by omega), hcode]
    · rw [addressRefusal, if_neg (by omega), hcode]
      exact if_neg haddr

end Sys2Proof
end

section
/-! PROOFS. The payload of a frame: its optional fields, the sizes and the ranges of steps 4 and 5 of the dispatch
(R169, R176, R177). -/

namespace Sys2Proof.Machine

/-! ### Two-byte fields -/

theorem half_extract (h : Half) : half (h.extractLsb' 8 8) (h.extractLsb' 0 8) = h := by
  refine BitVec.eq_of_getLsbD_eq fun i hi => ?_
  rw [half, BitVec.getLsbD_append]
  by_cases hlow : i < 8
  · simp [hlow]
  · have hrest : i - 8 < 8 := by omega
    have hback : 8 + (i - 8) = i := by omega
    simp [hlow, hrest, hback]

theorem extract_half (hi lo : Byte) :
    (half hi lo).extractLsb' 8 8 = hi ∧ (half hi lo).extractLsb' 0 8 = lo :=
  ⟨BitVec.extractLsb'_append_eq_left, BitVec.extractLsb'_append_eq_right⟩

theorem half_eq_zero_iff {hi lo : Byte} : half hi lo = 0 ↔ hi = 0 ∧ lo = 0 := by
  refine ⟨fun h => ?_, fun ⟨hhi, hlo⟩ => by subst hhi hlo; rfl⟩
  obtain ⟨hhi, hlo⟩ := extract_half hi lo
  rw [h] at hhi hlo
  exact ⟨hhi.symm, hlo.symm⟩

/-! ### The optional fields of a demand request (R176) -/

/-- The bytes an announced two-byte field takes. -/
def fieldWidth (announced : Bool) : Nat := if announced then 2 else 0

/-- The two-byte field at a place of a payload, where it is announced. -/
def fieldAt (announced : Bool) (bytes : List Byte) (place : Nat) : Option Half :=
  if announced then some (half (bytes.getD place 0) (bytes.getD (place + 1) 0)) else none

theorem takeHalf_eq (announced : Bool) (bytes : List Byte) :
    takeHalf announced bytes = if bytes.length < fieldWidth announced then none
      else some (fieldAt announced bytes 0, bytes.drop (fieldWidth announced)) := by
  cases announced with
  | false => rfl
  | true =>
    match bytes with
    | [] => rfl
    | [_] => rfl
    | hi :: lo :: more => simp [takeHalf, fieldWidth, fieldAt]

/-- The max_age field of a command is announced by the options. -/
def Command.agePresent (c : Command) (o : Byte) : Bool := (o &&& c.allowedOptions).getLsbD 2

/-- The deadline field of a command is announced by the options. -/
def Command.deadlinePresent (c : Command) (o : Byte) : Bool := (o &&& c.allowedOptions).getLsbD 1

/-- The bytes the announced two-byte fields take. -/
def Command.optionalWidth (c : Command) (o : Byte) : Nat :=
  fieldWidth (c.agePresent o) + fieldWidth (c.deadlinePresent o)

/-- The fields of a payload that is long enough. -/
def Command.fieldsOf (c : Command) (o : Byte) (bytes : List Byte) : DemandFields where
  options := o
  urgent := (o &&& c.allowedOptions).getLsbD 0
  maxAge := fieldAt (c.agePresent o) bytes 0
  deadline := fieldAt (c.deadlinePresent o) bytes (fieldWidth (c.agePresent o))
  hasData := (o &&& c.allowedOptions).getLsbD 3
  rest := bytes.drop (c.optionalWidth o)

theorem fieldAt_drop (announced : Bool) (bytes : List Byte) (place : Nat) :
    fieldAt announced (bytes.drop place) 0 = fieldAt announced bytes place := by
  simp [fieldAt]

/-- A payload has its fields exactly when it is long enough for those it announces. -/
theorem Command.demandFields_cons (c : Command) (o : Byte) (bytes : List Byte) :
    c.demandFields (o :: bytes) =
      if bytes.length < c.optionalWidth o then none else some (c.fieldsOf o bytes) := by
  simp only [Command.demandFields, takeHalf_eq, Command.fieldsOf, Command.optionalWidth, Command.agePresent,
    Command.deadlinePresent]
  have hboth (w1 w2 : Nat) (h : ¬ bytes.length < w1) : (bytes.length - w1 < w2) ↔ bytes.length < w1 + w2 := by omega
  by_cases hage : bytes.length < fieldWidth ((o &&& c.allowedOptions).getLsbD 2)
  · simp only [hage, if_true, Nat.lt_of_lt_of_le hage (Nat.le_add_right _ _)]
  · simp only [hage, if_false, List.length_drop, fieldAt_drop, List.drop_drop, hboth _ _ hage]
    by_cases hshort : bytes.length <
        fieldWidth ((o &&& c.allowedOptions).getLsbD 2) + fieldWidth ((o &&& c.allowedOptions).getLsbD 1)
    · simp only [hshort, if_true]
    · simp only [hshort, if_false]

theorem fieldAt_eq_zero_iff {announced : Bool} {bytes : List Byte} {place : Nat} :
    fieldAt announced bytes place = some 0 ↔
      announced = true ∧ bytes.getD place 0 = 0 ∧ bytes.getD (place + 1) 0 = 0 := by
  cases announced with
  | false => simp [fieldAt]
  | true => simp only [fieldAt, if_true, Option.some.injEq, half_eq_zero_iff, true_and]

/-! ### A field laid out is a field read -/

/-- A two-byte field as a payload carries it. -/
def fieldBytes : Option Half → List Byte
  | some h => [h.extractLsb' 8 8, h.extractLsb' 0 8]
  | none => []

theorem takeHalf_fieldBytes (field : Option Half) (rest : List Byte) :
    takeHalf field.isSome (fieldBytes field ++ rest) = some (field, rest) := by
  cases field with
  | none => rfl
  | some h =>
    change some (some (half _ _), rest) = _
    rw [half_extract]

/-- One bit of an options byte. -/
def optionBit (b : Bool) (v : Byte) : Byte := if b then v else 0

/-- Fields laid out one after the other read back, whatever the options byte says of them. -/
theorem Command.demandFields_laidOut {c : Command} {o : Byte} {urgent hasData : Bool} {age deadline : Option Half}
    {rest : List Byte} (hage : (o &&& c.allowedOptions).getLsbD 2 = age.isSome)
    (hdeadline : (o &&& c.allowedOptions).getLsbD 1 = deadline.isSome)
    (hurgent : (o &&& c.allowedOptions).getLsbD 0 = urgent)
    (hdata : (o &&& c.allowedOptions).getLsbD 3 = hasData) :
    c.demandFields (o :: (fieldBytes age ++ (fieldBytes deadline ++ rest))) =
      some ⟨o, urgent, age, deadline, hasData, rest⟩ := by
  simp only [Command.demandFields, hage, hdeadline, hurgent, hdata, takeHalf_fieldBytes]

theorem readInput_optionBits (urgent deadline age : Bool) :
    let called := (optionBit urgent 1 ||| optionBit deadline 2 ||| optionBit age 4) &&& Command.readInput.allowedOptions
    called.getLsbD 2 = age ∧ called.getLsbD 1 = deadline ∧ called.getLsbD 0 = urgent ∧ called.getLsbD 3 = false := by
  decide +revert

theorem exchange_optionBits (urgent deadline data : Bool) :
    let called := (optionBit urgent 1 ||| optionBit deadline 2 ||| optionBit data 8) &&& Command.exchange.allowedOptions
    called.getLsbD 2 = false ∧ called.getLsbD 1 = deadline ∧ called.getLsbD 0 = urgent ∧ called.getLsbD 3 = data := by
  decide +revert

theorem plain_optionBits (urgent deadline : Bool) :
    let called := (optionBit urgent 1 ||| optionBit deadline 2) &&& Command.pass.allowedOptions
    called.getLsbD 2 = false ∧ called.getLsbD 1 = deadline ∧ called.getLsbD 0 = urgent ∧ called.getLsbD 3 = false := by
  decide +revert

/-! ### Steps 4 and 5 of the dispatch (R169) -/

theorem Command.ofCode_code (c : Command) : Command.ofCode c.code = some c := by
  cases c <;> rfl

/-- A frame whose address suits its command is refused by its payload alone. -/
theorem dispatchRefusal_of_suits (first : Bool) {addr : Byte} (c : Command) (payload : List Byte)
    (hlow : addr.toNat ≤ 30) (hsuits : c.nodeAddressed = isNodeAddr addr) :
    dispatchRefusal first addr c.code payload =
      if c.sizeOk payload then c.fieldRefusal first payload else some .badLength := by
  have haddr : addressRefusal addr c.code = none := by
    rw [addressRefusal, if_neg (by omega), Command.ofCode_code]
    exact if_pos hsuits
  rw [dispatchRefusal, haddr, payloadRefusal, Command.ofCode_code]

theorem dispatchRefusal_node (first : Bool) {addr : Byte} (c : Command) (payload : List Byte)
    (h1 : 1 ≤ addr.toNat) (h30 : addr.toNat ≤ 30) (hnode : c.nodeAddressed = true) :
    dispatchRefusal first addr c.code payload =
      if c.sizeOk payload then c.fieldRefusal first payload else some .badLength :=
  dispatchRefusal_of_suits first c payload h30 (by rw [hnode]; simp [isNodeAddr, h1, h30])

theorem dispatchRefusal_part (first : Bool) (c : Command) (payload : List Byte) (hpart : c.nodeAddressed = false) :
    dispatchRefusal first 0 c.code payload =
      if c.sizeOk payload then c.fieldRefusal first payload else some .badLength :=
  dispatchRefusal_of_suits first c payload (by decide) (by rw [hpart]; rfl)

theorem Command.fieldRefusal_of_count_ok {c : Command} {payload : List Byte} (first : Bool)
    (hcount : c.countBad payload = false) :
    c.fieldRefusal first payload =
      if c.optionBad payload = true ∨ c.valueBad payload = true then some .badValue else none := by
  cases hoption : c.optionBad payload <;> cases hvalue : c.valueBad payload <;>
    simp [Command.fieldRefusal, hoption, hvalue, hcount]

/-- A command with no field to check is refused by its size alone. -/
theorem dispatchRefusal_of_size {first : Bool} {addr : Byte} (c : Command) {payload : List Byte} {P : Prop} [Decidable P]
    (hlow : addr.toNat ≤ 30) (hsuits : c.nodeAddressed = isNodeAddr addr) (hsize : c.sizeOk payload = true ↔ P)
    (hfields : c.fieldRefusal first payload = none) :
    dispatchRefusal first addr c.code payload = if P then none else some .badLength := by
  rw [dispatchRefusal_of_suits first c payload hlow hsuits, hfields]
  simp only [hsize]

theorem dispatchRefusal_part_of_size {first : Bool} (c : Command) {payload : List Byte} {P : Prop} [Decidable P]
    (hpart : c.nodeAddressed = false) (hsize : c.sizeOk payload = true ↔ P)
    (hfields : c.fieldRefusal first payload = none) :
    dispatchRefusal first 0 c.code payload = if P then none else some .badLength :=
  dispatchRefusal_of_size c (by decide) (by rw [hpart]; rfl) hsize hfields

/-- A command whose one check is of a value. -/
theorem Command.fieldRefusal_of_value {c : Command} {payload : List Byte} {P : Prop} [Decidable P] (first : Bool)
    (hoption : c.optionBad payload = false) (hvalue : c.valueBad payload = true ↔ ¬ P)
    (hcount : c.countBad payload = false) :
    c.fieldRefusal first payload = if P then none else some .badValue := by
  rw [Command.fieldRefusal_of_count_ok first hcount]
  simp only [hoption, hvalue, Bool.false_eq_true, false_or, ite_not]

theorem dispatchRefusal_readCounters (first : Bool) (payload : List Byte) :
    dispatchRefusal first 0 Command.readCounters.code payload = if 1 < payload.length then some .badLength
      else if payload = [] ∨ payload = [0x01] then none else some .badValue := by
  rw [dispatchRefusal_part first .readCounters payload rfl]
  match payload with
  | [] => rfl
  | [b] =>
    have hvalue : Command.readCounters.valueBad [b] = true ↔ ¬ ([b] = [] ∨ [b] = [0x01]) := by
      simp [Command.valueBad]
    exact Command.fieldRefusal_of_value first rfl hvalue rfl
  | _ :: _ :: more => simp [Command.sizeOk]

/-- The commands addressed to the part that carry no payload. -/
def emptyCommands : List Command :=
  [.queryStatus, .commit, .discard, .start, .stop, .suspendCycle, .resumeCycle, .clearSafe, .restartWarm,
    .bulkStart, .bulkSuspend, .bulkResume, .bulkAbort, .bulkStatus, .bulkClear]

theorem dispatchRefusal_empty {first : Bool} {c : Command} {payload : List Byte} (hc : c ∈ emptyCommands) :
    dispatchRefusal first 0 c.code payload = if payload.length = 0 then none else some .badLength := by
  simp only [emptyCommands, List.mem_cons, List.not_mem_nil, or_false] at hc
  rcases hc with rfl | rfl | rfl | rfl | rfl | rfl | rfl | rfl | rfl | rfl | rfl | rfl | rfl | rfl | rfl <;>
    exact dispatchRefusal_part_of_size _ rfl decide_eq_true_iff rfl

/-! ### The demand requests by their fields -/

section Demand
variable {o : Byte} {bytes : List Byte} {first : Bool}

/-- The deadline is announced and 0. -/
def Command.deadlineZero (c : Command) (o : Byte) (bytes : List Byte) : Bool :=
  fieldAt (c.deadlinePresent o) bytes (fieldWidth (c.agePresent o)) == some 0

theorem any_demandFields (c : Command) (p : DemandFields → Bool) :
    (c.demandFields (o :: bytes)).any p = true ↔ c.optionalWidth o ≤ bytes.length ∧ p (c.fieldsOf o bytes) = true := by
  rw [Command.demandFields_cons]
  by_cases hshort : bytes.length < c.optionalWidth o
  · simp [hshort]
  · simp [hshort, Nat.not_lt.mp hshort]

theorem isSome_demandFields (c : Command) :
    (c.demandFields (o :: bytes)).isSome = true ↔ c.optionalWidth o ≤ bytes.length := by
  rw [Command.demandFields_cons]
  by_cases hshort : bytes.length < c.optionalWidth o
  · simp [hshort]
  · simp [hshort, Nat.not_lt.mp hshort]

theorem Command.rest_length (c : Command) :
    (c.fieldsOf o bytes).rest.length = bytes.length - c.optionalWidth o := by
  simp [Command.fieldsOf]

/-- READ_INPUT and PROBE fill their payload with the announced fields. -/
theorem Command.sizeOk_plain {c : Command} (hc : c = .readInput ∨ c = .probe) :
    c.sizeOk (o :: bytes) = true ↔ bytes.length = c.optionalWidth o := by
  have hfields : c.sizeOk (o :: bytes) = (c.demandFields (o :: bytes)).any fun f => f.rest.isEmpty := by
    rcases hc with rfl | rfl <;> simp only [Command.sizeOk] <;> cases Command.demandFields _ (o :: bytes) <;> rfl
  rw [hfields, any_demandFields, List.isEmpty_iff_length_eq_zero, Command.rest_length]
  omega

theorem Command.valueBad_demand {c : Command} (hc : c = .readInput ∨ c = .exchange ∨ c = .pass ∨ c = .probe)
    (hlong : c.optionalWidth o ≤ bytes.length) :
    c.valueBad (o :: bytes) = true ↔ c.deadlineZero o bytes = true := by
  have hfields : c.valueBad (o :: bytes) = (c.demandFields (o :: bytes)).any fun f => f.deadline == some 0 := by
    rcases hc with rfl | rfl | rfl | rfl <;> rfl
  rw [hfields, any_demandFields]
  exact and_iff_right hlong

theorem Command.optionBad_demand {c : Command} (hc : c = .readInput ∨ c = .exchange ∨ c = .pass ∨ c = .probe) :
    c.optionBad (o :: bytes) = true ↔ o &&& ~~~ c.allowedOptions ≠ 0 := by
  rcases hc with rfl | rfl | rfl | rfl <;> simp [Command.optionBad]

/-- READ_INPUT and PROBE: the size, then the option bits and the deadline. -/
theorem dispatchRefusal_plain {addr : Byte} {c : Command} (h1 : 1 ≤ addr.toNat) (h30 : addr.toNat ≤ 30)
    (hc : c = .readInput ∨ c = .probe) :
    dispatchRefusal first addr c.code (o :: bytes) =
      if bytes.length ≠ c.optionalWidth o then some .badLength
      else if o &&& ~~~ c.allowedOptions ≠ 0 ∨ c.deadlineZero o bytes = true then some .badValue else none := by
  have hdemand : c = .readInput ∨ c = .exchange ∨ c = .pass ∨ c = .probe := by tauto
  have hcount : c.countBad (o :: bytes) = false := by rcases hc with rfl | rfl <;> rfl
  rw [dispatchRefusal_node first c _ h1 h30 (by rcases hc with rfl | rfl <;> rfl),
    Command.fieldRefusal_of_count_ok first hcount]
  by_cases hsize : bytes.length = c.optionalWidth o
  · rw [if_pos ((Command.sizeOk_plain hc).mpr hsize), if_neg (not_not_intro hsize)]
    simp only [Command.optionBad_demand hdemand, Command.valueBad_demand hdemand hsize.ge]
  · rw [if_neg (mt (Command.sizeOk_plain hc).mp hsize), if_pos hsize]

/-- EXCHANGE and PASS: the option bits first, then the deadline and the byte count. -/
theorem Command.fieldRefusal_counted {c : Command} {bad : Prop} (hc : c = .exchange ∨ c = .pass)
    (hlong : c.optionalWidth o ≤ bytes.length) (hcount : c.countBad (o :: bytes) = true ↔ bad) :
    (o &&& ~~~ c.allowedOptions ≠ 0 → c.fieldRefusal first (o :: bytes) = some .badValue) ∧
    (o &&& ~~~ c.allowedOptions = 0 → c.deadlineZero o bytes = true → ¬ bad →
      c.fieldRefusal first (o :: bytes) = some .badValue) ∧
    (o &&& ~~~ c.allowedOptions = 0 → c.deadlineZero o bytes = false → bad →
      c.fieldRefusal first (o :: bytes) = some .badLength) ∧
    (o &&& ~~~ c.allowedOptions = 0 → c.deadlineZero o bytes = false → ¬ bad → c.fieldRefusal first (o :: bytes) = none) ∧
    (o &&& ~~~ c.allowedOptions = 0 → c.deadlineZero o bytes = true → bad →
      c.fieldRefusal first (o :: bytes) = some .badValue ∨ c.fieldRefusal first (o :: bytes) = some .badLength) := by
  have hdemand : c = .readInput ∨ c = .exchange ∨ c = .pass ∨ c = .probe := by tauto
  have hvalue := Command.valueBad_demand hdemand hlong
  have hoption := Command.optionBad_demand (o := o) (bytes := bytes) hdemand
  have hallowed : o &&& ~~~ c.allowedOptions = 0 ↔ c.optionBad (o :: bytes) = false := by
    rw [← Bool.not_eq_true, hoption, not_ne_iff]
  rw [← Bool.not_eq_true, ← hvalue, ← hcount, hallowed, ← hoption]
  unfold Command.fieldRefusal
  cases c.optionBad (o :: bytes) <;> cases c.valueBad (o :: bytes) <;> cases c.countBad (o :: bytes) <;> cases first <;>
    simp

/-! ### The four demand requests -/

theorem Command.deadlineZero_eq (c : Command) :
    c.deadlineZero o bytes = (c.deadlinePresent o && bytes.getD (fieldWidth (c.agePresent o)) 0 == 0 &&
      bytes.getD (fieldWidth (c.agePresent o) + 1) 0 == 0) := by
  rw [Bool.eq_iff_iff, Command.deadlineZero, beq_iff_eq, fieldAt_eq_zero_iff]
  simp [and_assoc]

theorem Command.agePresent_readInput (o : Byte) : Command.readInput.agePresent o = o.getLsbD 2 := by
  simp [Command.agePresent, Command.allowedOptions]

theorem Command.agePresent_other {c : Command} (hc : c ≠ .readInput) (o : Byte) : c.agePresent o = false := by
  cases c with
  | readInput => exact absurd rfl hc
  | _ => simp [Command.agePresent, Command.allowedOptions]

theorem Command.deadlinePresent_demand {c : Command} (hc : c = .readInput ∨ c = .exchange ∨ c = .pass ∨ c = .probe)
    (o : Byte) : c.deadlinePresent o = o.getLsbD 1 := by
  rcases hc with rfl | rfl | rfl | rfl <;>
    simp [Command.deadlinePresent, Command.allowedOptions]

/-- The deadline of a request other than READ_INPUT is its first field. -/
theorem Command.deadlineZero_other {c : Command} (hc : c = .exchange ∨ c = .pass ∨ c = .probe) :
    c.deadlineZero o bytes = (o.getLsbD 1 && bytes.getD 0 0 == 0 && bytes.getD (0 + 1) 0 == 0) := by
  rw [Command.deadlineZero_eq, Command.deadlinePresent_demand (.inr hc),
    Command.agePresent_other (by rcases hc with rfl | rfl | rfl <;> simp)]
  rfl

theorem Command.optionalWidth_other {c : Command} (hc : c = .exchange ∨ c = .pass ∨ c = .probe) :
    c.optionalWidth o = if o.getLsbD 1 then 2 else 0 := by
  rw [Command.optionalWidth, Command.deadlinePresent_demand (.inr hc),
    Command.agePresent_other (by rcases hc with rfl | rfl | rfl <;> simp)]
  exact Nat.zero_add _

theorem Command.sizeOk_exchange :
    Command.exchange.sizeOk (o :: bytes) = true ↔
      Command.exchange.optionalWidth o ≤ bytes.length ∧
        (o.getLsbD 3 = true ∨ bytes.length - Command.exchange.optionalWidth o = 0) := by
  have hfields : Command.exchange.sizeOk (o :: bytes) =
      (Command.exchange.demandFields (o :: bytes)).any fun f => f.hasData || f.rest.isEmpty := by
    simp only [Command.sizeOk]
    cases Command.demandFields _ (o :: bytes) <;> rfl
  have hdata : (Command.exchange.fieldsOf o bytes).hasData = o.getLsbD 3 := by
    simp [Command.fieldsOf, Command.allowedOptions]
  rw [hfields, any_demandFields, Bool.or_eq_true, List.isEmpty_iff_length_eq_zero, Command.rest_length, hdata]

theorem Command.countBad_exchange (hlong : Command.exchange.optionalWidth o ≤ bytes.length) :
    Command.exchange.countBad (o :: bytes) = true ↔
      o.getLsbD 3 = true ∧ (bytes.length - Command.exchange.optionalWidth o = 0 ∨
        16 < bytes.length - Command.exchange.optionalWidth o) := by
  have hdata : (Command.exchange.fieldsOf o bytes).hasData = o.getLsbD 3 := by
    simp [Command.fieldsOf, Command.allowedOptions]
  rw [Command.countBad, any_demandFields, Command.rest_length, hdata]
  simp [hlong]

theorem Command.countBad_pass (hlong : Command.pass.optionalWidth o ≤ bytes.length) :
    Command.pass.countBad (o :: bytes) = true ↔
      (bytes.length - Command.pass.optionalWidth o = 0 ∨ 32 < bytes.length - Command.pass.optionalWidth o) := by
  rw [Command.countBad, any_demandFields, Command.rest_length]
  simp [hlong]

end Demand

end Sys2Proof.Machine

namespace Sys2Proof
open Machine

/-- Settles O8: the size and the fields of each demand request by its announced fields, every other command by its
own layout. -/
theorem payloadsAreCheckedInOrder : Obligations.PayloadsAreCheckedInOrder := by
  refine ⟨?demand, ?node, ?part⟩
  case demand =>
    intro first addr o bytes h1 h30 at_ age deadline zeroAt n
    have hexchange : Command.exchange.optionalWidth o = deadline := Command.optionalWidth_other (.inl rfl)
    have hpass : Command.pass.optionalWidth o = deadline := Command.optionalWidth_other (.inr (.inl rfl))
    refine ⟨?readInput, ?probe, ?exchangeSize, ?exchange, ?passSize, ?pass⟩
    case readInput =>
      have h := dispatchRefusal_plain (first := first) (o := o) (bytes := bytes) h1 h30 (.inl rfl)
      rwa [Command.deadlineZero_eq, Command.optionalWidth, Command.agePresent_readInput,
        Command.deadlinePresent_demand (.inl rfl)] at h
    case probe =>
      have h := dispatchRefusal_plain (first := first) (o := o) (bytes := bytes) h1 h30 (.inr rfl)
      rwa [Command.deadlineZero_other (.inr (.inr rfl)), Command.optionalWidth_other (.inr (.inr rfl))] at h
    case exchangeSize =>
      intro hbad
      refine (dispatchRefusal_node first .exchange _ h1 h30 rfl).trans (if_neg fun hsize => ?_)
      obtain ⟨hlong, hrest⟩ := Command.sizeOk_exchange.mp hsize
      rw [hexchange] at hlong hrest
      rcases hbad with hshort | ⟨hnone, hsome⟩
      · omega
      · exact hrest.elim (fun h => Bool.false_ne_true (hnone.symm.trans h)) hsome
    case exchange =>
      intro hlong hempty bad
      have hsize : Command.exchange.sizeOk (o :: bytes) = true := by
        refine Command.sizeOk_exchange.mpr ⟨hexchange ▸ hlong, ?_⟩
        rw [hexchange]
        cases hdata : o.getLsbD 3 with
        | true => exact .inl rfl
        | false => exact .inr (hempty hdata)
      have h : at_ 0x12 = Command.exchange.fieldRefusal first (o :: bytes) :=
        (dispatchRefusal_node first .exchange _ h1 h30 rfl).trans (if_pos hsize)
      have hrows := Command.fieldRefusal_counted (first := first) (.inl rfl) (hexchange ▸ hlong)
        (Command.countBad_exchange (hexchange ▸ hlong))
      rw [Command.deadlineZero_other (.inl rfl), hexchange] at hrows
      rw [h]
      exact hrows
    case passSize =>
      intro hshort
      refine (dispatchRefusal_node first .pass _ h1 h30 rfl).trans (if_neg fun hsize => ?_)
      have hlong := (isSome_demandFields .pass).mp hsize
      omega
    case pass =>
      intro hlong bad
      have h : at_ 0x13 = Command.pass.fieldRefusal first (o :: bytes) :=
        (dispatchRefusal_node first .pass _ h1 h30 rfl).trans
          (if_pos ((isSome_demandFields .pass).mpr (hpass ▸ hlong)))
      have hrows := Command.fieldRefusal_counted (first := first) (.inr rfl) (hpass ▸ hlong)
        (Command.countBad_pass (hpass ▸ hlong))
      rw [Command.deadlineZero_other (.inr (.inl rfl)), hpass] at hrows
      rw [h]
      exact hrows
  case node =>
    intro first addr payload h1 h30 k
    have hnode : isNodeAddr addr = true := by simp [isNodeAddr, h1, h30]
    refine ⟨fun cmd hcmd => ?empty, ?writeOutput, ?queryNode⟩
    case empty =>
      simp only [List.mem_cons, List.not_mem_nil, or_false] at hcmd
      rcases hcmd with rfl | rfl | rfl | rfl
      · exact dispatchRefusal_node first .readInput [] h1 h30 rfl
      · exact dispatchRefusal_node first .exchange [] h1 h30 rfl
      · exact dispatchRefusal_node first .pass [] h1 h30 rfl
      · exact dispatchRefusal_node first .probe [] h1 h30 rfl
    case writeOutput =>
      exact dispatchRefusal_of_size .writeOutput h30 hnode.symm (by simp [Command.sizeOk, k]) rfl
    case queryNode =>
      exact dispatchRefusal_of_size .queryNode h30 hnode.symm decide_eq_true_iff rfl
  case part =>
    intro first payload k at_
    refine ⟨fun cmd hcmd => ?empty, fun x hx => ?fixed, fun x hx => ?records, ?readCounters, ?openSize, ?opening,
      ?dataSize, fun hi lo data hpayload h1 h240 => ?data⟩
    case empty =>
      obtain ⟨c, hc, rfl⟩ := List.mem_map.mp (show cmd ∈ emptyCommands.map Command.code from hcmd)
      exact dispatchRefusal_empty hc
    case fixed =>
      simp only [List.mem_cons, List.not_mem_nil, or_false] at hx
      rcases hx with rfl | rfl | rfl | rfl | rfl
      · exact dispatchRefusal_part_of_size .readTable rfl decide_eq_true_iff rfl
      · exact dispatchRefusal_part_of_size .loadLine rfl decide_eq_true_iff rfl
      · exact dispatchRefusal_part_of_size .setLengths rfl decide_eq_true_iff rfl
      · exact dispatchRefusal_part_of_size .cancel rfl decide_eq_true_iff rfl
      · exact dispatchRefusal_part_of_size .noticeAck rfl decide_eq_true_iff rfl
    case records =>
      refine ⟨fun hshort => ?short, fun start count records hpayload => ?long⟩
      case short =>
        have hfew : payload = [] ∨ ∃ b, payload = [b] := by
          rcases Nat.lt_or_ge payload.length 1 with hnone | hone
          · exact .inl (List.length_eq_zero_iff.mp (by omega))
          · exact .inr (List.length_eq_one_iff.mp (by omega))
        simp only [List.mem_cons, List.not_mem_nil, or_false] at hx
        rcases hx with rfl | rfl | rfl
        · rcases hfew with rfl | ⟨b, rfl⟩ <;> exact dispatchRefusal_part first .loadNodes _ rfl
        · rcases hfew with rfl | ⟨b, rfl⟩ <;> exact dispatchRefusal_part first .loadMain _ rfl
        · rcases hfew with rfl | ⟨b, rfl⟩ <;> exact dispatchRefusal_part first .loadInterleave _ rfl
      case long =>
        subst hpayload
        simp only [List.mem_cons, List.not_mem_nil, or_false] at hx
        rcases hx with rfl | rfl | rfl
        · exact dispatchRefusal_part_of_size .loadNodes rfl decide_eq_true_iff rfl
        · exact dispatchRefusal_part_of_size .loadMain rfl decide_eq_true_iff rfl
        · exact dispatchRefusal_part_of_size .loadInterleave rfl (by simp [Command.sizeOk]) rfl
    case readCounters => exact dispatchRefusal_readCounters first payload
    case openSize =>
      intro hsize
      exact (dispatchRefusal_part first .bulkOpen payload rfl).trans (if_neg (by simpa [Command.sizeOk] using hsize))
    case opening =>
      rintro node hi lo rfl length
      refine (dispatchRefusal_part first .bulkOpen _ rfl).trans ((if_pos rfl).trans ?_)
      refine Command.fieldRefusal_of_value first rfl ?_ rfl
      simp only [Command.valueBad, half, isNodeAddr]
      grind
    case dataSize =>
      intro hsize
      refine (dispatchRefusal_part first .bulkData payload rfl).trans (if_neg ?_)
      simp only [Command.sizeOk, Bool.and_eq_true, decide_eq_true_eq]
      omega
    case data =>
      subst hpayload
      refine (dispatchRefusal_part first .bulkData _ rfl).trans ((if_pos ?_).trans ?_)
      · simp only [Command.sizeOk, List.length_cons, Bool.and_eq_true, decide_eq_true_eq]
        omega
      · exact Command.fieldRefusal_of_value first rfl (decide_eq_true_iff.trans not_le.symm) rfl

/-- Settles O23: the options byte announces exactly the fields laid out, and each is read back whole. -/
theorem demandPayloadsReadBack : Obligations.DemandPayloadsReadBack := by
  refine ⟨fun urgent age deadline => ?readInput, fun urgent deadline data => ?exchange,
    fun urgent deadline bytes => ⟨?pass, ?probe⟩⟩
  case readInput =>
    obtain ⟨hage, hdeadline, hurgent, hdata⟩ := readInput_optionBits urgent deadline.isSome age.isSome
    have h := Command.demandFields_laidOut (rest := []) hage hdeadline hurgent hdata
    rwa [List.append_nil] at h
  case exchange =>
    obtain ⟨hage, hdeadline, hurgent, hdata⟩ := exchange_optionBits urgent deadline.isSome data.isSome
    exact Command.demandFields_laidOut (age := none) (rest := data.getD []) hage hdeadline hurgent hdata
  case pass =>
    obtain ⟨hage, hdeadline, hurgent, hdata⟩ := plain_optionBits urgent deadline.isSome
    exact Command.demandFields_laidOut (c := .pass) (age := none) (rest := bytes) hage hdeadline hurgent hdata
  case probe =>
    obtain ⟨hage, hdeadline, hurgent, hdata⟩ := plain_optionBits urgent deadline.isSome
    have h := Command.demandFields_laidOut (c := .probe) (age := none) (rest := []) hage hdeadline hurgent hdata
    rwa [List.append_nil] at h

end Sys2Proof
end

section
/-! PROOFS. Records and their places, READ_TABLE, the loads and COMMIT (R152 to R160, R177). -/

namespace Sys2Proof.Machine

/-! ### Frames whose owner changes more than the link port -/

/-- An owner that answers once it has changed what it owns: the reply is at the transmitter before what that change
makes due is taken. -/
theorem State.takeFrame_answers_follow {s u : State} {f : UpFrame} {handle : State → Out} {r : Result}
    {content : List Byte} (mnemonic : String) (haccepts : s.accepts f = true) (hsettled : s.txSettled = true)
    (hhandle : handle s.heard = .next (u.answer f r content)) (hlink : u.link = s.heard.link)
    (hnotices : u.notices = s.notices) (hreset : u.resetAsserted = s.resetAsserted) :
    s.takeFrame mnemonic f handle = .next ({ u with link := (s.answered f r content).link } : State).follow := by
  have hs := State.accepts_resetAsserted haccepts
  rw [State.takeFrame_accepts mnemonic handle haccepts, hhandle]
  exact congrArg Host.Outcome.next (State.close_answer f r content hsettled hs hlink hnotices (hreset.trans hs))

/-- With nothing due after the change, the event ends with the reply at the transmitter. -/
theorem State.takeFrame_answers_changed {s u : State} {f : UpFrame} {handle : State → Out} {r : Result}
    {content : List Byte} (mnemonic : String) (haccepts : s.accepts f = true) (hsettled : s.txSettled = true)
    (hhandle : handle s.heard = .next (u.answer f r content)) (hlink : u.link = s.heard.link)
    (hnotices : u.notices = s.notices) (hreset : u.resetAsserted = s.resetAsserted) (hdecided : u.decided = true) :
    s.takeFrame mnemonic f handle = .next { u with link := (s.answered f r content).link } := by
  have hs := State.accepts_resetAsserted haccepts
  rw [State.takeFrame_accepts mnemonic handle haccepts, hhandle]
  exact congrArg Host.Outcome.next
    (State.close_answer_decided f r content hsettled hs hlink hnotices (hreset.trans hs) hdecided)

/-- The tables with the commit state as it was make nothing due. -/
theorem State.decided_withTables {s : State} {t : TableStore} (h : t.commitPending = s.tables.commitPending) :
    (s.withTables t).decided = s.decided := by
  simp only [State.decided, State.arbitrationDue, State.applicationDue, State.anyWant, State.headWant,
    State.cancelWant, State.segmentWant, State.scheduleWant, State.withTables_line, State.withTables_sched,
    State.withTables_queue, State.withTables_bulk, State.withTables_tables, h]
  rfl

/-! ### READ_TABLE (R158) -/

section ReadTable
variable {t : TableStore} {copy first count : Byte}

/-- The copy that READ_TABLE's first byte names. -/
def TableStore.copyOf (t : TableStore) (copy : Byte) : TableSet := if copy = 0 then t.shadow else t.active

theorem TableStore.readTable_line (hcopy : copy.toNat ≤ 1) :
    t.readTable copy 0 first count = some ([copy, 0, (Config.lineReadBytes first count).1,
      (Config.lineReadBytes first count).2] ++ (t.copyOf copy).line.bytes) := by
  simp [TableStore.readTable, Nat.not_lt.mpr hcopy, TableStore.copyOf]

theorem TableStore.readTable_nodes (hcopy : copy.toNat ≤ 1) (hfirst : 1 ≤ first.toNat) (hcount : 1 ≤ count.toNat)
    (hend : first.toNat + count.toNat ≤ 31) (hfit : count.toNat ≤ 21) :
    t.readTable copy 1 first count = some ([copy, 1, first, count] ++ (List.range count.toNat).flatMap fun i =>
      (bankGet (t.copyOf copy).nodes NodeConfig.cleared (first.toNat + i)).bytes) := by
  have hrange : 1 ≤ first.toNat ∧ first.toNat ≤ 30 ∧ 1 ≤ count.toNat ∧ first.toNat + count.toNat - 1 ≤ 30 ∧
      count.toNat ≤ 21 := by omega
  have hplace (v : Vector NodeConfig 30) (i : Nat) : bankGet v NodeConfig.cleared (first.toNat + i) =
      v[first.toNat - 1 + i]?.getD NodeConfig.cleared := by
    have hsucc : first.toNat + i = (first.toNat - 1 + i) + 1 := by omega
    rw [hsucc]
    rfl
  simp [TableStore.readTable, Nat.not_lt.mpr hcopy, hrange, recordsFrom, List.flatMap_map, hplace, TableStore.copyOf]

theorem TableStore.readTable_main (hcopy : copy.toNat ≤ 1) (hcount : 1 ≤ count.toNat)
    (hend : first.toNat + count.toNat ≤ 64) :
    t.readTable copy 2 first count = some ([copy, 2, first, count, natByte (t.copyOf copy).mainLen,
      natByte (t.copyOf copy).ilLen] ++ (List.range count.toNat).flatMap fun i =>
        ((t.copyOf copy).main[first.toNat + i]?.getD MainEntry.cleared).bytes) := by
  have hrange : first.toNat ≤ 63 ∧ 1 ≤ count.toNat := by omega
  simp [TableStore.readTable, Nat.not_lt.mpr hcopy, hrange, hend, recordsFrom, List.flatMap_map, TableStore.copyOf]

theorem TableStore.readTable_interleave (hcopy : copy.toNat ≤ 1) (hcount : 1 ≤ count.toNat)
    (hend : first.toNat + count.toNat ≤ 4) :
    t.readTable copy 3 first count = some ([copy, 3, first, count, natByte (t.copyOf copy).mainLen,
      natByte (t.copyOf copy).ilLen] ++ (List.range count.toNat).map fun i =>
        (t.copyOf copy).interleave[first.toNat + i]?.getD 0) := by
  have hrange : first.toNat ≤ 3 ∧ 1 ≤ count.toNat := by omega
  simp [TableStore.readTable, Nat.not_lt.mpr hcopy, hrange, hend, recordsFrom, TableStore.copyOf]

theorem TableStore.readTable_out_of_range {table : Byte}
    (h : 1 < copy.toNat ∨ 3 < table.toNat ∨
      (table = 1 ∧ (first.toNat = 0 ∨ count.toNat = 0 ∨ 31 < first.toNat + count.toNat ∨ 21 < count.toNat)) ∨
      (table = 2 ∧ (count.toNat = 0 ∨ 64 < first.toNat + count.toNat)) ∨
      (table = 3 ∧ (count.toNat = 0 ∨ 4 < first.toNat + count.toNat))) :
    t.readTable copy table first count = none := by
  unfold TableStore.readTable
  rcases h with hcopy | htable | ⟨rfl, hrange⟩ | ⟨rfl, hrange⟩ | ⟨rfl, hrange⟩
  · exact if_pos hcopy
  · have hnot (x : Byte) (hx : x.toNat ≤ 3) : table ≠ x := by
      rintro rfl
      omega
    simp only [if_neg (hnot 0 (by decide)), if_neg (hnot 1 (by decide)), if_neg (hnot 2 (by decide)),
      if_neg (hnot 3 (by decide)), ite_self]
  · simp only [show ¬ (1 : Byte) = 0 by decide, if_true, if_false, Bool.and_eq_true, decide_eq_true_eq]
    exact ite_eq_left_iff.mpr fun _ => if_neg (by omega)
  · simp only [show ¬ (2 : Byte) = 0 by decide, show ¬ (2 : Byte) = 1 by decide, if_true, if_false, Bool.and_eq_true,
      decide_eq_true_eq]
    exact ite_eq_left_iff.mpr fun _ => if_neg (by omega)
  · simp only [show ¬ (3 : Byte) = 0 by decide, show ¬ (3 : Byte) = 1 by decide, show ¬ (3 : Byte) = 2 by decide,
      if_true, if_false, Bool.and_eq_true, decide_eq_true_eq]
    exact ite_eq_left_iff.mpr fun _ => if_neg (by omega)

end ReadTable

theorem exec_readTable (tag : Byte) (payload : List Byte) (s : State) :
    exec (.readTable tag payload) s = s.takeFrame "READ_TABLE" ⟨0, 0x23, tag, payload⟩
      fun s1 => .next (s1.takeReadTable ⟨0, 0x23, tag, payload⟩) := rfl

/-- READ_TABLE is answered with the content there is, and with BAD_VALUE where there is none. -/
theorem exec_readTable_answers {s : State} {tag copy table first count : Byte}
    (haccepts : s.accepts ⟨0, 0x23, tag, [copy, table, first, count]⟩ = true) (hsettled : s.txSettled = true)
    (hdecided : s.decided = true) :
    (∀ content, s.tables.readTable copy table first count = some content →
      exec (.readTable tag [copy, table, first, count]) s =
        .next (s.answered ⟨0, 0x23, tag, [copy, table, first, count]⟩ .ok content)) ∧
    (s.tables.readTable copy table first count = none →
      exec (.readTable tag [copy, table, first, count]) s =
        .next (s.answered ⟨0, 0x23, tag, [copy, table, first, count]⟩ .badValue [])) := by
  rw [exec_readTable]
  refine ⟨fun content h => State.takeFrame_answers _ haccepts hsettled hdecided ?_,
    fun h => State.takeFrame_answers _ haccepts hsettled hdecided ?_⟩
  all_goals
    have h' : s.heard.tables.readTable copy table first count = _ := h
    simp only [State.takeReadTable, h']

/-! ### Loads (R155) -/

/-- A load command that is taken for its frame. -/
theorem State.takeFrame_load {s : State} {f : UpFrame} {handle : State → Out} {load : TableSet → Option TableSet}
    (mnemonic : String) (hhandle : handle s.heard = .next (s.heard.takeLoad f load)) (haccepts : s.accepts f = true)
    (hsettled : s.txSettled = true) (hdecided : s.decided = true) :
    (s.tables.commitPending = true → s.takeFrame mnemonic f handle = .next (s.answered f .commitPending [])) ∧
    (s.tables.commitPending = false → load s.tables.shadow = none →
      s.takeFrame mnemonic f handle = .next (s.answered f .badValue [])) ∧
    (∀ t, s.tables.commitPending = false → load s.tables.shadow = some t →
      s.takeFrame mnemonic f handle =
        .next { s.answered f .ok [] with tables := { s.tables with shadow := t } }) := by
  have hpend : s.heard.tables.commitPending = s.tables.commitPending := rfl
  have hshadow : load s.heard.tables.shadow = load s.tables.shadow := rfl
  refine ⟨fun hpending => ?pending, fun hpending hload => ?refused, fun t hpending hload => ?loaded⟩
  case pending =>
    refine State.takeFrame_answers mnemonic haccepts hsettled hdecided ?_
    rw [hhandle, State.takeLoad, if_pos (hpend.trans hpending)]
  case refused =>
    refine State.takeFrame_answers mnemonic haccepts hsettled hdecided ?_
    rw [hhandle, State.takeLoad, if_neg (by simp [hpend, hpending]), hshadow, hload]
  case loaded =>
    refine State.takeFrame_answers_changed (u := s.heard.setShadow t) mnemonic haccepts hsettled ?_ rfl rfl rfl ?_
    · rw [hhandle, State.takeLoad, if_neg (by simp [hpend, hpending]), hshadow, hload]
    · exact (State.decided_withTables (s := s.heard) rfl).trans
        ((State.decided_congr rfl rfl rfl rfl rfl).trans hdecided)

/-! ### A node record with a notify byte that is no code (R40, R156) -/

/-- The cleared record of R153, enabled, but for its last byte: 7 is no notify code. -/
def strayNotifyBytes : List Byte := [1, 0, 0, 0, 50, 1, 3, 8, 0x13, 0x88, 7]

/-- The model reads the stray code as NONE: in `Notify.ofCode` the last `none` is `Notify.none`, lifted to an
option, and not the absent option. -/
theorem strayNotifyBytes_accepted :
    NodeConfig.ofBytes strayNotifyBytes = some { NodeConfig.cleared with enabled := true } := by
  decide

theorem strayNotifyBytes_ne : strayNotifyBytes ≠ ({ NodeConfig.cleared with enabled := true } : NodeConfig).bytes := by
  decide

/-! ### Runs of records (R156, R157, R177) -/

section Runs
variable {α : Type} {ofBytes : List Byte → Option α} {size : Nat}

/-- Records laid out one after the other are read as they are. -/
theorem readRecords_flatMap {toBytes : α → List Byte} (rs : List α) (hlength : ∀ r ∈ rs, (toBytes r).length = size)
    (hread : ∀ r ∈ rs, ofBytes (toBytes r) = some r) :
    readRecords ofBytes size rs.length (rs.flatMap toBytes) = some rs := by
  induction rs with
  | nil => rfl
  | cons r rs ih =>
    have hr := hlength r (by simp)
    have htail := ih (fun x hx => hlength x (by simp [hx])) fun x hx => hread x (by simp [hx])
    simp only [List.flatMap_cons, List.length_cons, readRecords, List.take_left' hr, List.drop_left' hr,
      hread r (by simp), htail]

/-- A run is read exactly when each of its records is. -/
theorem readRecords_isSome {k : Nat} {bytes : List Byte} :
    (readRecords ofBytes size k bytes).isSome = true ↔
      ∀ i, i < k → (ofBytes ((bytes.drop (size * i)).take size)).isSome = true := by
  induction k generalizing bytes with
  | zero => simp [readRecords]
  | succ k ih =>
    have hboth : (readRecords ofBytes size (k + 1) bytes).isSome = true ↔
        (ofBytes (bytes.take size)).isSome = true ∧ (readRecords ofBytes size k (bytes.drop size)).isSome = true := by
      rw [readRecords]
      cases ofBytes (bytes.take size) <;> cases readRecords ofBytes size k (bytes.drop size) <;> simp
    rw [hboth, ih]
    have hshift (i : Nat) : (bytes.drop size).drop (size * i) = bytes.drop (size * (i + 1)) := by
      rw [List.drop_drop, Nat.mul_succ, Nat.add_comm]
    simp only [hshift]
    refine ⟨fun ⟨hfirst, hrest⟩ i hi => ?_, fun h => ⟨?_, fun i hi => h (i + 1) (by omega)⟩⟩
    · cases i with
      | zero => simpa using hfirst
      | succ i => exact hrest i (by omega)
    · simpa using h 0 (by omega)

/-- Records written from a position upward stand there, and every other record as before. -/
theorem getElem?_writeRecords {n : Nat} (v : Vector α n) (a : Nat) (rs : List α) (hfit : a + rs.length ≤ n) (i : Nat) :
    (writeRecords v a rs)[i]? = if a ≤ i ∧ i < a + rs.length then rs[i - a]? else v[i]? := by
  induction rs generalizing v a with
  | nil => simp only [writeRecords, List.length_nil, Nat.add_zero, if_neg (show ¬ (a ≤ i ∧ i < a) by omega)]
  | cons r rs ih =>
    simp only [List.length_cons] at hfit
    rw [writeRecords, ih _ _ (by omega), Vector.getElem?_setIfInBounds, List.length_cons]
    rcases Nat.lt_trichotomy i a with hlt | rfl | hgt
    · rw [if_neg (by omega), if_neg (by omega), if_neg (by omega)]
    · rw [if_neg (by omega), if_pos rfl, if_pos (by omega), if_pos (by omega)]
      simp
    · obtain ⟨j, rfl⟩ : ∃ j, i = a + 1 + j := ⟨i - (a + 1), by omega⟩
      have hthis : a + 1 + j - (a + 1) = j := by omega
      have hnext : a + 1 + j - a = j + 1 := by omega
      rw [if_neg (show ¬ a = a + 1 + j by omega), hthis, hnext, List.getElem?_cons_succ]
      simp only [show (a + 1 ≤ a + 1 + j ∧ a + 1 + j < a + 1 + rs.length) ↔
        (a ≤ a + 1 + j ∧ a + 1 + j < a + (rs.length + 1)) by omega]

theorem getElem_writeRecords {n a : Nat} (v : Vector α n) {rs : List α} {d : α} (hfit : a + rs.length ≤ n) (i : Nat)
    (hi : i < n) : (writeRecords v a rs)[i] = if a ≤ i ∧ i < a + rs.length then rs.getD (i - a) d else v[i] := by
  have hplace := getElem?_writeRecords v a rs hfit i
  rw [Vector.getElem?_eq_getElem hi, Vector.getElem?_eq_getElem hi] at hplace
  by_cases hrun : a ≤ i ∧ i < a + rs.length
  · have hin : i - a < rs.length := by omega
    rw [if_pos hrun, List.getElem?_eq_getElem hin, Option.some.injEq] at hplace
    rw [if_pos hrun, hplace, List.getD_eq_getElem _ _ hin]
  · rw [if_neg hrun, Option.some.injEq] at hplace
    rw [if_neg hrun, hplace]

end Runs

theorem NodeConfig.bytes_length (c : NodeConfig) : c.bytes.length = 11 := rfl

theorem MainEntry.bytes_length (e : MainEntry) : e.bytes.length = 3 := rfl

theorem natByte_toNat {n : Nat} (h : n ≤ 64) : (natByte n).toNat = n := natByte_toNat_of_lt (by omega)

theorem interleaveOfBytes_isSome {bytes : List Byte} :
    (interleaveOfBytes (bytes.take 1)).isSome = true ↔ ∃ b, bytes[0]? = some b ∧ 1 ≤ b.toNat ∧ b.toNat ≤ 30 := by
  cases bytes with
  | nil => simp [interleaveOfBytes]
  | cons b more => simp [interleaveOfBytes, isNodeAddr]

theorem isSome_guarded_map {α β : Type} {range : Prop} [Decidable range] {o : Option α} {f : α → β} :
    (if range then o.map f else none).isSome = true ↔ range ∧ o.isSome = true := by
  by_cases h : range <;> simp [h]

theorem loadNodes_isSome {first count : Byte} {records : List Byte} {t : TableSet} :
    (loadNodes (first :: count :: records) t).isSome = true ↔
      (1 ≤ first.toNat ∧ 1 ≤ count.toNat ∧ first.toNat + count.toNat ≤ 31) ∧
        (readRecords NodeConfig.ofBytes 11 count.toNat records).isSome = true := by
  refine isSome_guarded_map.trans (and_congr_left fun _ => ?_)
  simp only [Bool.and_eq_true, decide_eq_true_eq]
  omega

theorem loadMain_isSome {first count : Byte} {records : List Byte} {t : TableSet} :
    (loadMain (first :: count :: records) t).isSome = true ↔
      (1 ≤ count.toNat ∧ first.toNat + count.toNat ≤ 64) ∧
        (readRecords MainEntry.ofBytes 3 count.toNat records).isSome = true := by
  refine isSome_guarded_map.trans (and_congr_left fun _ => ?_)
  simp only [Bool.and_eq_true, decide_eq_true_eq]
  omega

theorem loadInterleave_isSome {first count : Byte} {records : List Byte} {t : TableSet} :
    (loadInterleave (first :: count :: records) t).isSome = true ↔
      (1 ≤ count.toNat ∧ first.toNat + count.toNat ≤ 4) ∧
        (readRecords interleaveOfBytes 1 count.toNat records).isSome = true := by
  refine isSome_guarded_map.trans (and_congr_left fun _ => ?_)
  simp only [Bool.and_eq_true, decide_eq_true_eq]
  omega

theorem setLengths_isSome {m i : Byte} {t : TableSet} :
    (setLengths [m, i] t).isSome = true ↔ m.toNat ≤ 64 ∧ i.toNat ≤ 4 := by
  by_cases h : m.toNat ≤ 64 ∧ i.toNat ≤ 4 <;> simp [setLengths, h]

end Sys2Proof.Machine

namespace Sys2Proof
open Machine

/-- Settles O11: each table's content is there in its range and nowhere else. -/
theorem readTableAnswersTheRecords : Obligations.ReadTableAnswersTheRecords := by
  intro s tag copy table first count f set a k c haccepts hsettled hdecided
  obtain ⟨hsome, hnone⟩ := exec_readTable_answers haccepts hsettled hdecided
  refine ⟨?line, ?nodes, ?main, ?interleave, fun h => hnone (TableStore.readTable_out_of_range h)⟩
  case line =>
    rintro hcopy rfl
    exact ⟨_, _, hsome _ (TableStore.readTable_line hcopy)⟩
  case nodes =>
    rintro hcopy rfl hfirst hcount hend hfit
    exact hsome _ (TableStore.readTable_nodes hcopy hfirst hcount hend hfit)
  case main =>
    rintro hcopy rfl hcount hend
    exact hsome _ (TableStore.readTable_main hcopy hcount hend)
  case interleave =>
    rintro hcopy rfl hcount hend
    exact hsome _ (TableStore.readTable_interleave hcopy hcount hend)

/-- Settles O12: the six commands are one load each, of the shadow that hearing the frame leaves. -/
theorem loadsWriteTheShadowAlone : Obligations.LoadsWriteTheShadowAlone := by
  intro s tag cmd payload c load hmem f haccepts hsettled hdecided
  simp only [List.mem_cons, List.not_mem_nil, or_false, Prod.mk.injEq] at hmem
  rcases hmem with ⟨rfl, rfl, rfl⟩ | ⟨rfl, rfl, rfl⟩ | ⟨rfl, rfl, rfl⟩ | ⟨rfl, rfl, rfl⟩ | ⟨rfl, rfl, rfl⟩ |
    ⟨rfl, rfl, rfl⟩
  · exact State.takeFrame_load "LOAD_LINE" (handle := fun s1 => .next (s1.takeLoad f (loadLine payload))) rfl haccepts
      hsettled hdecided
  · exact State.takeFrame_load "LOAD_NODES" (handle := fun s1 => .next (s1.takeLoad f (loadNodes payload))) rfl haccepts
      hsettled hdecided
  · exact State.takeFrame_load "LOAD_MAIN" (handle := fun s1 => .next (s1.takeLoad f (loadMain payload))) rfl haccepts
      hsettled hdecided
  · exact State.takeFrame_load "LOAD_INTERLEAVE" (handle := fun s1 => .next (s1.takeLoad f (loadInterleave payload))) rfl
      haccepts hsettled hdecided
  · exact State.takeFrame_load "SET_LENGTHS" (handle := fun s1 => .next (s1.takeLoad f (setLengths payload))) rfl
      haccepts hsettled hdecided
  · exact State.takeFrame_load "DISCARD" (handle := fun s1 => .next (s1.takeLoad f fun _ => some s1.tables.active)) rfl
      haccepts hsettled hdecided

/-- Refutes O13: a node record whose notify byte is no code is accepted as one of notify NONE. -/
theorem not_tableRecordsReadBack : ¬ Obligations.TableRecordsReadBack := by
  rintro ⟨-, hnode, -⟩
  obtain ⟨hbytes, -⟩ := (hnode _ _).mp strayNotifyBytes_accepted
  exact strayNotifyBytes_ne hbytes

/-- Settles O14: a run of records is read whole or not at all, and stands where it was written. -/
theorem loadedRecordsReachTheirPlaces : Obligations.LoadedRecordsReachTheirPlaces := by
  refine ⟨fun p t hread => ?line, fun a rs t h1 hsome hend hread => ?nodes, fun a rs t hsome hend hread => ?main,
    fun a rs t hsome hend hread => ?interleave, fun m i t hm hi => ?lengths, ?taken⟩
  case line => rw [loadLine, hread]; rfl
  case nodes =>
    have hpos : 1 ≤ rs.length := List.length_pos_iff.mpr hsome
    have hrun := readRecords_flatMap rs (fun r _ => r.bytes_length) hread
    refine ⟨writeRecords t.nodes (a - 1) rs, ?_, fun n h1n h30 => ?_⟩
    · simp only [loadNodes, natByte_toNat (show a ≤ 64 by omega), natByte_toNat (show rs.length ≤ 64 by omega), hrun]
      exact if_pos (by simp; omega)
    · obtain ⟨k, rfl⟩ : ∃ k, n = k + 1 := ⟨n - 1, by omega⟩
      change (writeRecords t.nodes (a - 1) rs)[k]?.getD _ = _
      rw [getElem?_writeRecords _ _ _ (by omega)]
      simp only [show (a - 1 ≤ k ∧ k < a - 1 + rs.length) ↔ (a ≤ k + 1 ∧ k + 1 < a + rs.length) by omega,
        show k - (a - 1) = k + 1 - a by omega, bankGet, List.getD_eq_getElem?_getD]
      split <;> rfl
  case main =>
    have hpos : 1 ≤ rs.length := List.length_pos_iff.mpr hsome
    have hrun := readRecords_flatMap rs (fun r _ => r.bytes_length) hread
    refine ⟨writeRecords t.main a rs, ?_, getElem_writeRecords _ hend⟩
    simp only [loadMain, natByte_toNat (show a ≤ 64 by omega), natByte_toNat (show rs.length ≤ 64 by omega), hrun]
    exact if_pos (by simp; omega)
  case interleave =>
    have hpos : 1 ≤ rs.length := List.length_pos_iff.mpr hsome
    have hone (r : Byte) (hr : r ∈ rs) : interleaveOfBytes [r] = some r := by
      simp [interleaveOfBytes, isNodeAddr, hread r hr]
    have hrun := readRecords_flatMap (toBytes := fun b => [b]) rs (fun _ _ => rfl) hone
    rw [List.flatMap_singleton'] at hrun
    refine ⟨writeRecords t.interleave a rs, ?_, getElem_writeRecords _ hend⟩
    simp only [loadInterleave, natByte_toNat (show a ≤ 64 by omega), natByte_toNat (show rs.length ≤ 64 by omega), hrun]
    exact if_pos (by simp; omega)
  case lengths =>
    simp [setLengths, hm, hi]
  case taken =>
    intro first count records t a k
    refine ⟨fun bytes => ?_, ?_, ?_, ?_, ?_⟩
    · simp [loadLine]
    · rw [loadNodes_isSome, readRecords_isSome, and_assoc, and_assoc]
    · rw [loadMain_isSome, readRecords_isSome, and_assoc]
    · rw [loadInterleave_isSome, readRecords_isSome, and_assoc]
      simp only [interleaveOfBytes_isSome, List.getElem?_drop, Nat.one_mul, Nat.add_zero]
      rfl
    · exact setLengths_isSome

end Sys2Proof
end

section
/-! PROOFS. COMMIT and the checks of the shadow; STOP, SUSPEND_CYCLE, CLEAR_SAFE and RESTART_WARM (R17, R130, R131,
R138, R159, R174). -/

namespace Sys2Proof.Machine

/-! ### The checks of R159 -/

section Validation
variable {t : TableSet}

theorem TableSet.lengthsOk_iff :
    t.lengthsOk = true ↔ t.mainLen ≤ 64 ∧ t.ilLen ≤ 4 ∧ (t.mainLen = 0 → t.ilLen = 0) := by
  simp only [TableSet.lengthsOk, Bool.and_eq_true, Bool.or_eq_true, decide_eq_true_eq]
  omega

theorem TableSet.nodeEnabled_iff {node : Byte} :
    t.nodeEnabled node = true ↔ 1 ≤ node.toNat ∧ node.toNat ≤ 30 ∧
      (bankGet t.nodes NodeConfig.cleared node.toNat).enabled = true := by
  simp [TableSet.nodeEnabled, isNodeAddr, and_assoc]

theorem TableSet.mainEntryOk_iff {i : Nat} :
    t.mainEntryOk i = true ↔
      let e := t.main[i]?.getD MainEntry.cleared
      (1 ≤ e.node.toNat ∧ e.node.toNat ≤ 30 ∧ (bankGet t.nodes NodeConfig.cleared e.node.toNat).enabled = true) ∧
        1 ≤ e.divisor.toNat ∧ e.divisor.toNat ≤ 16 ∧ e.phase.toNat < e.divisor.toNat := by
  simp only [TableSet.mainEntryOk, Bool.and_eq_true, decide_eq_true_eq, TableSet.nodeEnabled_iff, and_assoc]

theorem TableSet.ilEntryOk_iff {i : Nat} :
    t.ilEntryOk i = true ↔
      (1 ≤ (t.ilEntry i).toNat ∧ (t.ilEntry i).toNat ≤ 30 ∧
        (bankGet t.nodes NodeConfig.cleared (t.ilEntry i).toNat).enabled = true) ∧
        ∀ j, j < i → t.ilEntry j ≠ t.ilEntry i := by
  simp [TableSet.ilEntryOk, TableSet.nodeEnabled_iff]

/-- The first entry of a list that fails its check. -/
theorem find_first_failing {ok : Nat → Bool} {n i : Nat} (hi : i < n) (hbefore : ∀ j, j < i → ok j = true)
    (hfails : ¬ ok i = true) : ((List.range n).find? fun j => !ok j) = some i := by
  rw [List.find?_range_eq_some]
  refine ⟨by simpa using hfails, List.mem_range.mpr hi, fun j hj => ?_⟩
  rw [Bool.not_not]
  exact hbefore j hj

theorem find_none_failing {ok : Nat → Bool} {n : Nat} :
    ((List.range n).find? fun j => !ok j) = none ↔ ∀ i, i < n → ok i = true := by
  simp only [List.find?_range_eq_none, Bool.not_not]

theorem TableSet.invalid_eq_none :
    t.invalid = none ↔ t.lengthsOk = true ∧ (∀ i, i < t.mainLen → t.mainEntryOk i = true) ∧
      ∀ i, i < t.ilLen → t.ilEntryOk i = true := by
  rw [← find_none_failing, ← find_none_failing]
  unfold TableSet.invalid
  cases t.lengthsOk with
  | false => simp
  | true =>
    cases (List.range t.mainLen).find? fun i => !t.mainEntryOk i with
    | some i => simp
    | none => cases (List.range t.ilLen).find? fun i => !t.ilEntryOk i <;> simp

theorem TableSet.invalid_lengths (h : ¬ t.lengthsOk = true) : t.invalid = some (1, 0) := by
  simp [TableSet.invalid, h]

theorem TableSet.invalid_main {i : Nat} (hlengths : t.lengthsOk = true) (hi : i < t.mainLen)
    (hbefore : ∀ j, j < i → t.mainEntryOk j = true) (hfails : ¬ t.mainEntryOk i = true) :
    t.invalid = some (2, natByte i) := by
  simp [TableSet.invalid, hlengths, find_first_failing hi hbefore hfails]

theorem TableSet.invalid_interleave {i : Nat} (hlengths : t.lengthsOk = true)
    (hmain : ∀ j, j < t.mainLen → t.mainEntryOk j = true) (hi : i < t.ilLen)
    (hbefore : ∀ j, j < i → t.ilEntryOk j = true) (hfails : ¬ t.ilEntryOk i = true) :
    t.invalid = some (3, natByte i) := by
  simp [TableSet.invalid, hlengths, find_none_failing.mpr hmain, find_first_failing hi hbefore hfails]

end Validation

theorem exec_commit (tag : Byte) (payload : List Byte) (s : State) :
    exec (.commit tag payload) s = s.takeFrame "COMMIT" ⟨0, 0x35, tag, payload⟩
      fun s1 => .next (s1.takeCommit ⟨0, 0x35, tag, payload⟩) := rfl

/-! ### The run states (R17, R130, R131) and the safe flag (R138) -/

theorem exec_stop (tag : Byte) (payload : List Byte) (s : State) :
    exec (.stop tag payload) s = s.takeFrame "STOP" ⟨0, 0x41, tag, payload⟩
      fun s1 => .next (s1.takeStop ⟨0, 0x41, tag, payload⟩) := rfl

theorem exec_suspendCycle (tag : Byte) (payload : List Byte) (s : State) :
    exec (.suspendCycle tag payload) s = s.takeFrame "SUSPEND_CYCLE" ⟨0, 0x42, tag, payload⟩
      fun s1 => .next (s1.takeSuspend ⟨0, 0x42, tag, payload⟩) := rfl

theorem exec_clearSafe (tag : Byte) (payload : List Byte) (s : State) :
    exec (.clearSafe tag payload) s = s.takeFrame "CLEAR_SAFE" ⟨0, 0x44, tag, payload⟩
      fun s1 => .next (s1.takeClearSafe ⟨0, 0x44, tag, payload⟩) := rfl

/-- A restart marked pending once so many replies are sent (R174). -/
def State.restartMarked (s : State) (n : Nat) : State := s.withLink { s.link with restartPending := some n }

theorem exec_restartWarm (tag : Byte) (payload : List Byte) (s : State) :
    exec (.restartWarm tag payload) s = s.takeFrame "RESTART_WARM" ⟨0, 0x45, tag, payload⟩
      fun s1 => .next ((s1.answer ⟨0, 0x45, tag, payload⟩ .ok []).restartMarked
        (s1.answer ⟨0, 0x45, tag, payload⟩ .ok []).link.replies.length) := rfl

section Run
variable {s : State}

/-- No walk outside RUNNING (R5). -/
theorem State.walk_of_not_running (h : s.sched.runState ≠ .running) : s.walk = s :=
  if_neg fun htaken => h htaken.1

/-- The scheduler after a schedule restart (R17): an attached step is detached if its order is on the line. -/
theorem State.restartSched_eq (s : State) (keepWait : Bool) :
    s.restartSched keepWait = { s.sched with
      phase := .sweep
      sweepAddr := 1
      mainIndex := 0
      ilPointer := 0
      spacing := 0
      ready := none
      attached := none
      detached :=
        match s.sched.attached with
        | some ⟨step, _, false⟩ => some step
        | _ => s.sched.detached
      cycleStart := none
      suspendedMark := false
      boundaryMark := decide (s.mainLen = 0)
      minWait := if keepWait then s.sched.minWait else none } := by
  unfold State.restartSched
  match s.sched.attached with
  | none => rfl
  | some ⟨step, attempts, true⟩ => rfl
  | some ⟨step, attempts, false⟩ => rfl

/-- A scheduler that presents a want or a safe broadcast only where it did before makes no arbitration due. -/
theorem State.arbitrationDue_withSched {d : Sched} (harbitration : s.arbitrationDue = false)
    (hbroadcast : d.safeBroadcast = true → s.sched.safeBroadcast = true)
    (hschedule : (s.withSched d).scheduleWant = true → s.scheduleWant = true) :
    (s.withSched d).arbitrationDue = false := by
  have hhead (c : QueueClass) : (s.withSched d).headWant c = s.headWant c := rfl
  have hcancel : (s.withSched d).cancelWant = s.cancelWant := rfl
  have hsegment : (s.withSched d).segmentWant = s.segmentWant := rfl
  have hwant : (s.withSched d).anyWant = true → s.anyWant = true := by
    simp only [State.anyWant, hcancel, hsegment, hhead, State.withSched_sched, Bool.or_eq_true]
    tauto
  simp only [State.arbitrationDue, State.withSched_line, Bool.and_eq_false_iff] at harbitration ⊢
  refine harbitration.imp_right fun hnone => ?_
  rw [Bool.eq_false_iff] at hnone ⊢
  exact mt hwant hnone

/-- With a restart pending the transmitter takes the reply, whatever notice is ready (R174). -/
theorem State.wake_answer_restart {f : UpFrame} {r : Result} {content : List Byte} {n : Nat}
    (hreset : s.resetAsserted = false) :
    ((s.heard.answer f r content).restartMarked n).wake = (s.answered f r content).restartMarked n := by
  by_cases hidle : s.link.tx = .idle
  · rw [State.wake_reply (s := (s.heard.answer f r content).restartMarked n) hidle hreset
      (by simp [State.restartMarked]) (by simp [State.noticeTakable, State.restartMarked])]
    simp only [State.answered, hidle, if_true]
    rfl
  · rw [State.wake_sending (s := (s.heard.answer f r content).restartMarked n) hidle]
    simp only [State.answered, hidle, if_false]
    rfl

end Run

end Sys2Proof.Machine

namespace Sys2Proof
open Machine

/-- Settles O15: the three answers by the commit state and the first failing check, and the checks by their order. -/
theorem commitValidatesTheShadow : Obligations.CommitValidatesTheShadow := by
  refine ⟨?commit, fun t => ?checks⟩
  case commit =>
    intro s tag f haccepts hsettled hdecided
    have hpend : s.heard.tables.commitPending = s.tables.commitPending := rfl
    have hshadow : s.heard.tables.shadow.invalid = s.tables.shadow.invalid := rfl
    rw [exec_commit]
    refine ⟨fun hpending => ?pending, fun reason index hpending hinvalid => ?invalid, fun hpending hvalid => ?accepted⟩
    case pending =>
      refine State.takeFrame_answers _ haccepts hsettled hdecided ?_
      rw [State.takeCommit, if_pos (hpend.trans hpending)]
    case invalid =>
      refine State.takeFrame_answers _ haccepts hsettled hdecided ?_
      rw [State.takeCommit, if_neg (by simp [hpend, hpending]), hshadow, hinvalid]
    case accepted =>
      refine State.takeFrame_answers_follow (u := s.heard.withTables { s.tables with commitPending := true }) _ haccepts
        hsettled ?_ rfl rfl rfl
      rw [State.takeCommit, if_neg (by simp [hpend, hpending]), hshadow, hvalid]
      rfl
  case checks =>
    intro lengths node main slot interleave
    have hlengths : lengths ↔ t.lengthsOk = true := TableSet.lengthsOk_iff.symm
    have hmain (i : Nat) : main i ↔ t.mainEntryOk i = true := TableSet.mainEntryOk_iff.symm
    have hinterleave (i : Nat) : interleave i ↔ t.ilEntryOk i = true := TableSet.ilEntryOk_iff.symm
    simp only [hlengths, hmain, hinterleave]
    exact ⟨TableSet.invalid_eq_none, TableSet.invalid_lengths, fun i => TableSet.invalid_main,
      fun i => TableSet.invalid_interleave⟩

/-- Settles O18: outside RUNNING the restart takes no walk, and the mark and the wait of a suspension are the
scheduler's alone. -/
theorem stopAndSuspendHoldTheCycle : Obligations.StopAndSuspendHoldTheCycle := by
  intro s tag f g hsettled hdecided
  rw [exec_stop, exec_suspendCycle]
  refine ⟨fun haccepts hstopped => ?stopped, fun haccepts hstarted => ?stop, fun haccepts hrunning => ?suspend,
    fun haccepts hresting => ?resting⟩
  case stopped =>
    refine State.takeFrame_answers _ haccepts hsettled hdecided ?_
    rw [State.takeStop, if_pos (show s.heard.sched.runState = .stopped from hstopped)]
  case stop =>
    have hrun : ((s.heard.setRun .stopped).restartSched false).runState = .stopped := rfl
    have htaken : s.heard.takeStop f =
        ((s.heard.setRun .stopped).withSched ((s.heard.setRun .stopped).restartSched false)).answer f .ok [] := by
      rw [State.takeStop, if_neg (show ¬ s.heard.sched.runState = .stopped from hstarted), State.scheduleRestart,
        State.walk_of_not_running (by rw [State.withSched_sched, hrun]; simp)]
    refine (State.takeFrame_answers_follow (handle := fun s1 => .next (s1.takeStop f))
      (u := (s.heard.setRun .stopped).withSched ((s.heard.setRun .stopped).restartSched false)) _ haccepts hsettled
      (congrArg Host.Outcome.next htaken) rfl rfl rfl).trans ?_
    rw [State.restartSched_eq]
    rfl
  case suspend =>
    refine State.takeFrame_answers_follow (u := s.heard.withSched s.sched.suspend) _ haccepts hsettled ?_ rfl rfl rfl
    rw [State.takeSuspend, if_pos (show s.heard.sched.runState = .running from hrunning)]
    rfl
  case resting =>
    refine State.takeFrame_answers _ haccepts hsettled hdecided ?_
    rw [State.takeSuspend, if_neg (show ¬ s.heard.sched.runState = .running from hresting)]

/-- Settles O21: clearing the flag and its request makes nothing due; with a restart pending an IDLE transmitter takes
the reply and no notice. -/
theorem clearSafeAndRestartWarm : Obligations.ClearSafeAndRestartWarm := by
  refine ⟨?clear, ?restart⟩
  case clear =>
    intro s tag f haccepts hsettled hdecided
    rw [exec_clearSafe]
    refine ⟨fun hsafe => ?on, fun hsafe => ?off⟩
    case on =>
      obtain ⟨harbitration, happlication⟩ := s.decided_iff.mp hdecided
      refine State.takeFrame_answers_changed
        (u := s.heard.withSched { s.sched with safe := false, safeBroadcast := false }) _ haccepts hsettled ?_ rfl rfl rfl
        ((State.decided_iff _).mpr ⟨?_, happlication⟩)
      · rw [State.takeClearSafe, if_pos (show s.heard.sched.safe = true from hsafe)]
        rfl
      · exact State.arbitrationDue_withSched (s := s.heard) harbitration (fun h => nomatch h) id
    case off =>
      refine State.takeFrame_answers _ haccepts hsettled hdecided ?_
      rw [State.takeClearSafe, if_neg (by rw [show s.heard.sched.safe = false from hsafe]; exact Bool.false_ne_true)]
  case restart =>
    intro s tag f haccepts hsettled hdecided
    have hreset := State.accepts_resetAsserted haccepts
    rw [exec_restartWarm, State.takeFrame_accepts _ _ haccepts]
    refine congrArg Host.Outcome.next ?_
    rw [State.close, State.wake_answer_restart hreset, State.follow_of_decided, State.wake_sending]
    · simp only [State.answer_link, List.length_append, List.length_singleton]
      rfl
    · exact s.answered_busy f .ok []
    · exact (State.decided_congr rfl rfl rfl rfl rfl).trans hdecided

end Sys2Proof
end

section
/-! PROOFS. The schedule walk: each of its moves, what it leaves alone, and the steps it rests with (R5 to R8, R12,
R14 to R16, R19). -/

namespace Sys2Proof.Machine

/-! ### The lowest node address with a property -/

theorem find_nodeAddrs_eq (p : Nat → Bool) :
    nodeAddrs.find? p = ((List.range 30).find? fun i => p (i + 1)).map (· + 1) := by
  rw [nodeAddrs, List.find?_map]
  rfl

theorem find_nodeAddrs_some {p : Nat → Bool} {a : Nat} :
    nodeAddrs.find? p = some a ↔ 1 ≤ a ∧ a ≤ 30 ∧ p a = true ∧ ∀ b, 1 ≤ b → b < a → p b = false := by
  rw [find_nodeAddrs_eq, Option.map_eq_some_iff]
  simp only [List.find?_range_eq_some, List.mem_range, Bool.not_eq_true']
  constructor
  · rintro ⟨i, ⟨hp, hi, hbefore⟩, rfl⟩
    refine ⟨by omega, by omega, hp, fun b h1 hb => ?_⟩
    have hpred := hbefore (b - 1) (by omega)
    rwa [Nat.sub_add_cancel h1] at hpred
  · rintro ⟨h1, h30, hp, hbefore⟩
    refine ⟨a - 1, ⟨?_, by omega, fun j hj => hbefore (j + 1) (by omega) (by omega)⟩, Nat.sub_add_cancel h1⟩
    rwa [Nat.sub_add_cancel h1]

theorem find_nodeAddrs_none {p : Nat → Bool} :
    nodeAddrs.find? p = none ↔ ∀ b, 1 ≤ b → b ≤ 30 → p b = false := by
  rw [find_nodeAddrs_eq, Option.map_eq_none_iff, List.find?_range_eq_none]
  simp only [Bool.not_eq_true']
  refine ⟨fun h b h1 h30 => ?_, fun h i hi => h (i + 1) (by omega) (by omega)⟩
  have hpred := h (b - 1) (by omega)
  rwa [Nat.sub_add_cancel h1] at hpred

section Moves
variable {s : State}

/-! ### The conditions of a move -/

/-- The probe of node a is due in this sweep (R6). -/
def State.ProbeDue (s : State) (a : Nat) : Prop :=
  1 ≤ a ∧ a ≤ 30 ∧ s.sched.sweepAddr ≤ a ∧ s.health a = .offline ∧ (s.node a).countdown = 0

/-- An interleave slot is owed (R8). -/
def State.SlotOwed (s : State) : Prop := 0 < s.ilLen ∧ s.sched.spacing = s.params.interleaveSpacing.toNat

/-- Main entry i is due and its node is not OFFLINE (R7). -/
def State.MainDue (s : State) (i : Nat) : Prop :=
  s.sched.cycleNumber.toNat % (s.mainEntry i).divisor.toNat = (s.mainEntry i).phase.toNat ∧
    s.health (s.mainEntry i).node.toNat ≠ .offline

theorem State.dueProbe_some {a : Nat} : s.dueProbe = some a ↔ s.ProbeDue a ∧ ∀ b, s.ProbeDue b → a ≤ b := by
  rw [State.dueProbe, find_nodeAddrs_some]
  simp only [Bool.and_eq_true, decide_eq_true_eq, Bool.and_eq_false_iff, decide_eq_false_iff_not]
  constructor
  · rintro ⟨h1, h30, ⟨⟨hsweep, hoffline⟩, hcount⟩, hbefore⟩
    refine ⟨⟨h1, h30, hsweep, hoffline, hcount⟩, fun b ⟨hb1, _, hbsweep, hboff, hbcount⟩ => ?_⟩
    by_contra hlt
    rcases hbefore b hb1 (Nat.lt_of_not_le hlt) with (hno | hno) | hno
    · exact hno hbsweep
    · exact hno hboff
    · exact hno hbcount
  · rintro ⟨⟨h1, h30, hsweep, hoffline, hcount⟩, hlowest⟩
    refine ⟨h1, h30, ⟨⟨hsweep, hoffline⟩, hcount⟩, fun b hb1 hba => ?_⟩
    by_contra hdue
    have hle := hlowest b ⟨hb1, by omega, by tauto⟩
    omega

theorem State.dueProbe_none : s.dueProbe = none ↔ ∀ b, ¬ s.ProbeDue b := by
  rw [State.dueProbe, find_nodeAddrs_none]
  simp only [Bool.and_eq_false_iff, decide_eq_false_iff_not, State.ProbeDue]
  exact forall_congr' fun b => by tauto

theorem State.due_mainEntry {i : Nat} :
    ((s.mainEntry i).due s.sched.cycleNumber ∧ s.health (s.mainEntry i).node.toNat ≠ .offline) ↔ s.MainDue i := by
  simp [State.MainDue, MainEntry.due]

/-! ### Each move (R6 to R8) -/

theorem State.walkMove_probe {a : Nat} (hphase : s.sched.phase = .sweep) (hdue : s.dueProbe = some a) :
    s.walkMove = (s.rest .probe a a, false) := by
  simp only [State.walkMove, hphase, hdue]

theorem State.walkMove_swept (hphase : s.sched.phase = .sweep) (hdue : s.dueProbe = none) :
    s.walkMove = (s.withSched { s.sched with phase := .main, sweepAddr := 31 }, true) := by
  simp only [State.walkMove, hphase, hdue]

theorem State.walkMove_slotSkipped (hphase : s.sched.phase = .main) (howed : s.SlotOwed)
    (hoffline : s.health (s.ilNode s.sched.ilPointer) = .offline) :
    s.walkMove = (s.withSched { s.sched with
      ilPointer := (s.sched.ilPointer + 1) % s.ilLen, spacing := 0 }, true) := by
  have hpointer : s.nextPointer s.sched.ilPointer = (s.sched.ilPointer + 1) % s.ilLen := if_neg howed.1.ne'
  unfold State.walkMove
  simp only [hphase, if_pos (show 0 < s.ilLen ∧ s.sched.spacing = s.params.interleaveSpacing.toNat from howed), hoffline,
    if_true, hpointer]

theorem State.walkMove_slot (hphase : s.sched.phase = .main) (howed : s.SlotOwed)
    (hon : s.health (s.ilNode s.sched.ilPointer) ≠ .offline) :
    s.walkMove = (s.rest .interleave (s.ilNode s.sched.ilPointer) s.sched.ilPointer, false) := by
  unfold State.walkMove
  simp only [hphase, if_pos (show 0 < s.ilLen ∧ s.sched.spacing = s.params.interleaveSpacing.toNat from howed), hon,
    if_false]

theorem State.walkMove_boundary (hphase : s.sched.phase = .main) (howed : ¬ s.SlotOwed)
    (hpast : s.mainLen ≤ s.sched.mainIndex) :
    s.walkMove = (s.cycleBoundary, s.cycleBoundary.sched.minWait.isNone && !s.cycleBoundary.tables.commitPending) := by
  unfold State.walkMove
  simp only [hphase, if_neg (show ¬ (0 < s.ilLen ∧ s.sched.spacing = s.params.interleaveSpacing.toNat) from howed),
    hpast, if_true]

theorem State.walkMove_main (hphase : s.sched.phase = .main) (howed : ¬ s.SlotOwed)
    (hin : s.sched.mainIndex < s.mainLen) (hdue : s.MainDue s.sched.mainIndex) :
    s.walkMove =
      (s.rest .main (s.mainEntry s.sched.mainIndex).node.toNat s.sched.mainIndex, false) := by
  unfold State.walkMove
  simp only [hphase, if_neg (show ¬ (0 < s.ilLen ∧ s.sched.spacing = s.params.interleaveSpacing.toNat) from howed),
    Nat.not_le.mpr hin, if_false, if_pos (State.due_mainEntry.mpr hdue)]

theorem State.walkMove_mainSkipped (hphase : s.sched.phase = .main) (howed : ¬ s.SlotOwed)
    (hin : s.sched.mainIndex < s.mainLen) (hdue : ¬ s.MainDue s.sched.mainIndex) :
    s.walkMove = (s.withSched { s.sched with mainIndex := s.sched.mainIndex + 1 }, true) := by
  unfold State.walkMove
  simp only [hphase, if_neg (show ¬ (0 < s.ilLen ∧ s.sched.spacing = s.params.interleaveSpacing.toNat) from howed),
    Nat.not_le.mpr hin, if_false, if_neg (mt State.due_mainEntry.mp hdue)]

/-- All that a move can be. -/
inductive State.Move (s : State) : State → Bool → Prop
  | probe (a : Nat) (hphase : s.sched.phase = .sweep) (hdue : s.ProbeDue a) (hlowest : ∀ b, s.ProbeDue b → a ≤ b) :
      Move s (s.rest .probe a a) false
  | swept (hphase : s.sched.phase = .sweep) (hdue : ∀ b, ¬ s.ProbeDue b) :
      Move s (s.withSched { s.sched with phase := .main, sweepAddr := 31 }) true
  | slotSkipped (hphase : s.sched.phase = .main) (howed : s.SlotOwed) :
      Move s (s.withSched { s.sched with ilPointer := (s.sched.ilPointer + 1) % s.ilLen, spacing := 0 }) true
  | slot (hphase : s.sched.phase = .main) (howed : s.SlotOwed)
      (hon : s.health (s.ilNode s.sched.ilPointer) ≠ .offline) :
      Move s (s.rest .interleave (s.ilNode s.sched.ilPointer) s.sched.ilPointer) false
  | boundary (goes : Bool) (hphase : s.sched.phase = .main) (howed : ¬ s.SlotOwed)
      (hpast : s.mainLen ≤ s.sched.mainIndex) : Move s s.cycleBoundary goes
  | main (hphase : s.sched.phase = .main) (howed : ¬ s.SlotOwed) (hin : s.sched.mainIndex < s.mainLen)
      (hdue : s.MainDue s.sched.mainIndex) :
      Move s (s.rest .main (s.mainEntry s.sched.mainIndex).node.toNat s.sched.mainIndex) false
  | mainSkipped (hphase : s.sched.phase = .main) (howed : ¬ s.SlotOwed) (hin : s.sched.mainIndex < s.mainLen) :
      Move s (s.withSched { s.sched with mainIndex := s.sched.mainIndex + 1 }) true

theorem State.walkMove_move (s : State) : s.Move s.walkMove.1 s.walkMove.2 := by
  cases hphase : s.sched.phase with
  | sweep =>
    cases hdue : s.dueProbe with
    | some a =>
      rw [State.walkMove_probe hphase hdue]
      obtain ⟨hprobe, hlowest⟩ := State.dueProbe_some.mp hdue
      exact .probe a hphase hprobe hlowest
    | none =>
      rw [State.walkMove_swept hphase hdue]
      exact .swept hphase (State.dueProbe_none.mp hdue)
  | main =>
    by_cases howed : s.SlotOwed
    · by_cases hoffline : s.health (s.ilNode s.sched.ilPointer) = .offline
      · rw [State.walkMove_slotSkipped hphase howed hoffline]
        exact .slotSkipped hphase howed
      · rw [State.walkMove_slot hphase howed hoffline]
        exact .slot hphase howed hoffline
    · by_cases hin : s.sched.mainIndex < s.mainLen
      · by_cases hdue : s.MainDue s.sched.mainIndex
        · rw [State.walkMove_main hphase howed hin hdue]
          exact .main hphase howed hin hdue
        · rw [State.walkMove_mainSkipped hphase howed hin hdue]
          exact .mainSkipped hphase howed hin
      · rw [State.walkMove_boundary hphase howed (Nat.not_lt.mp hin)]
        exact .boundary _ hphase howed (Nat.not_lt.mp hin)

/-! ### The cycle boundary (R12, R14 to R16) -/

/-- The record of a node outside the bank is the reset record, which a boundary leaves. -/
theorem bankGet_tabulate_map {α : Type} (f : α → α) (v : Vector α 30) (d : α) (hd : f d = d) (n : Nat) :
    bankGet (tabulate fun m => f (bankGet v d m)) d n = f (bankGet v d n) := by
  by_cases h : 1 ≤ n ∧ n ≤ 30
  · exact bankGet_tabulate _ d h.1 h.2
  · have outside (w : Vector α 30) : bankGet w d n = d := by
      cases n with
      | zero => rfl
      | succ k =>
        have hk : w[k]? = none := Vector.getElem?_eq_none (by omega)
        rw [bankGet, hk]
        rfl
    rw [outside, outside, hd]

theorem State.cycleBoundary_eq (s : State) : s.cycleBoundary = { s with
    sched := s.boundarySched
    nodes := tabulate fun n => (s.node n).atBoundary
    notices := if s.overran then s.notices.offer .cycleOverrun else s.notices } := by
  unfold State.cycleBoundary
  by_cases hlate : s.overran = true
  · simp only [hlate, if_true]
    rfl
  · simp only [hlate]
    rfl

theorem State.cycleBoundary_node (s : State) (n : Nat) : s.cycleBoundary.node n = (s.node n).atBoundary := by
  rw [State.cycleBoundary_eq]
  exact bankGet_tabulate_map NodeRt.atBoundary s.nodes NodeRt.reset rfl n

theorem State.cycleBoundary_sched (s : State) : s.cycleBoundary.sched = s.boundarySched := by
  rw [State.cycleBoundary_eq]

theorem State.cycleBoundary_tables (s : State) : s.cycleBoundary.tables = s.tables := by
  rw [State.cycleBoundary_eq]

theorem half_ne_zero_iff {h : Half} : h ≠ 0 ↔ h.toNat ≠ 0 :=
  ⟨fun hne h0 => hne (BitVec.eq_of_toNat_eq h0), fun hne h0 => hne (by rw [h0]; rfl)⟩

/-- A cycle with a start that ends late is an overrun unless it was suspended (R16). -/
theorem State.overran_eq (s : State) :
    s.overran = match s.sched.cycleStart with
      | none => false
      | some start => decide (s.params.cycleMinPeriod.toNat ≠ 0 ∧ start + s.params.cycleMinPeriod.toNat < s.now) &&
        !s.sched.suspendedMark := by
  unfold State.overran
  cases s.sched.cycleStart with
  | none => rfl
  | some start =>
    refine congrArg (· && !s.sched.suspendedMark) ?_
    rw [Bool.eq_iff_iff, Bool.and_eq_true, bne_iff_ne, half_ne_zero_iff, decide_eq_true_eq, decide_eq_true_eq]
    omega

/-- A cycle with a start that ends early begins the wait (R15). -/
theorem State.boundaryWait_eq (s : State) :
    s.boundaryWait = match s.sched.cycleStart with
      | none => s.sched.minWait
      | some start =>
        if s.params.cycleMinPeriod.toNat ≠ 0 ∧ s.now < start + s.params.cycleMinPeriod.toNat then
          some (start + s.params.cycleMinPeriod.toNat)
        else s.sched.minWait := by
  unfold State.boundaryWait
  cases s.sched.cycleStart with
  | none => rfl
  | some start => simp only [Bool.and_eq_true, bne_iff_ne, half_ne_zero_iff, decide_eq_true_eq]

theorem NodeRt.atBoundary_eq (r : NodeRt) : r.atBoundary = { r with
    countdown := if r.health = .offline ∧ r.countdown ≠ 0 then r.countdown - 1 else r.countdown } := by
  unfold NodeRt.atBoundary
  split <;> rfl

/-! ### What the walk leaves alone -/

/-- What every move of the walk leaves alone. -/
structure State.WalkKeeps (s t : State) : Prop where
  tables : t.tables = s.tables
  node : ∀ n, { t.node n with countdown := (s.node n).countdown } = s.node n
  runState : t.sched.runState = s.sched.runState
  safe : t.sched.safe = s.sched.safe
  safeBroadcast : t.sched.safeBroadcast = s.sched.safeBroadcast
  credit : t.sched.credit = s.sched.credit
  pace : t.sched.pace = s.sched.pace
  attached : t.sched.attached = s.sched.attached
  detached : t.sched.detached = s.sched.detached

theorem State.WalkKeeps.refl (s : State) : s.WalkKeeps s := ⟨rfl, fun _ => rfl, rfl, rfl, rfl, rfl, rfl, rfl, rfl⟩

theorem State.WalkKeeps.trans {t u : State} (h1 : s.WalkKeeps t) (h2 : t.WalkKeeps u) : s.WalkKeeps u where
  tables := h2.tables.trans h1.tables
  node n := by
    rw [← h1.node n, ← h2.node n]
  runState := h2.runState.trans h1.runState
  safe := h2.safe.trans h1.safe
  safeBroadcast := h2.safeBroadcast.trans h1.safeBroadcast
  credit := h2.credit.trans h1.credit
  pace := h2.pace.trans h1.pace
  attached := h2.attached.trans h1.attached
  detached := h2.detached.trans h1.detached

theorem State.WalkKeeps.health {t : State} (h : s.WalkKeeps t) (n : Nat) : t.health n = s.health n := by
  rw [State.health, State.health, ← h.node n]

theorem State.Move.keeps {t : State} {goes : Bool} (h : s.Move t goes) : s.WalkKeeps t := by
  cases h with
  | boundary =>
    have hsched := s.cycleBoundary_sched
    refine ⟨s.cycleBoundary_tables, fun n => ?_, ?_, ?_, ?_, ?_, ?_, ?_, ?_⟩
    · rw [State.cycleBoundary_node, NodeRt.atBoundary_eq]
    all_goals rw [hsched]; rfl
  | probe | swept | slotSkipped | slot | main | mainSkipped =>
    exact ⟨rfl, fun _ => rfl, rfl, rfl, rfl, rfl, rfl, rfl, rfl⟩

theorem walkMoves_keeps (k : Nat) (s : State) : s.WalkKeeps (walkMoves k s) := by
  induction k generalizing s with
  | zero => exact .refl s
  | succ k ih =>
    rw [walkMoves]
    split
    · exact s.walkMove_move.keeps.trans (ih _)
    · exact s.walkMove_move.keeps

theorem State.walk_keeps (s : State) : s.WalkKeeps s.walk := by
  unfold State.walk
  split
  · exact walkMoves_keeps _ s
  · exact .refl s

/-! ### The steps the walk rests with -/

/-- A step the walk may rest with, in the state it rests in. -/
structure State.RestsOn (t : State) (st : SchedStep) : Prop where
  probe : st.kind = .probe → st.pos = st.node ∧ t.sched.phase = .sweep ∧ t.ProbeDue st.node ∧
    ∀ b, t.ProbeDue b → st.node ≤ b
  main : st.kind = .main → t.sched.phase = .main ∧ st.pos = t.sched.mainIndex ∧ st.pos < t.mainLen ∧
    st.node = (t.mainEntry st.pos).node.toNat ∧ ¬ t.SlotOwed ∧ t.MainDue st.pos
  interleave : st.kind = .interleave → t.sched.phase = .main ∧ t.SlotOwed ∧ st.pos = t.sched.ilPointer ∧
    st.node = t.ilNode st.pos ∧ t.health st.node ≠ .offline

theorem State.Move.restsOn {t : State} {goes : Bool} {st : SchedStep} (h : s.Move t goes)
    (hnone : s.sched.ready = none) (hready : t.sched.ready = some st) : t.RestsOn st := by
  have kept {d : Sched} (hd : d.ready = s.sched.ready) (hst : (s.withSched d).sched.ready = some st) :
      (s.withSched d).RestsOn st := by
    rw [State.withSched_sched, hd, hnone] at hst
    cases hst
  cases h with
  | probe a hphase hdue hlowest =>
    cases hready
    exact ⟨fun _ => ⟨rfl, hphase, hdue, hlowest⟩, nofun, nofun⟩
  | slot hphase howed hon =>
    cases hready
    exact ⟨nofun, nofun, fun _ => ⟨hphase, howed, rfl, rfl, hon⟩⟩
  | main hphase howed hin hdue =>
    cases hready
    exact ⟨nofun, fun _ => ⟨hphase, rfl, hin, rfl, howed, hdue⟩, nofun⟩
  | boundary =>
    rw [State.cycleBoundary_sched] at hready
    exact absurd (hready.symm.trans hnone) (by simp)
  | swept | slotSkipped | mainSkipped => exact kept rfl hready

/-- A move after which the walk goes on readies no step. -/
theorem State.Move.ready_of_goes {t : State} (h : s.Move t true) : t.sched.ready = s.sched.ready := by
  cases h with
  | boundary => rw [State.cycleBoundary_sched]; rfl
  | swept | slotSkipped | mainSkipped => rfl

theorem walkMoves_restsOn (k : Nat) {s : State} {st : SchedStep} (hnone : s.sched.ready = none)
    (hready : (walkMoves k s).sched.ready = some st) : (walkMoves k s).RestsOn st := by
  induction k generalizing s with
  | zero =>
    rw [walkMoves, hnone] at hready
    cases hready
  | succ k ih =>
    have hmove := s.walkMove_move
    rw [walkMoves] at hready ⊢
    by_cases hgoes : s.walkMove.2 = true
    · rw [hgoes] at hmove
      simp only [hgoes, if_true] at hready ⊢
      exact ih (hmove.ready_of_goes.trans hnone) hready
    · simp only [hgoes] at hready ⊢
      exact hmove.restsOn hnone hready

theorem State.walk_of_not_taken (h : ¬ (s.sched.runState = .running ∧ s.sched.ready = none ∧ s.sched.attached = none ∧
    s.sched.minWait = none ∧ 0 < s.mainLen)) : s.walk = s := if_neg h

/-- A walk that ends with a ready step where there was none was taken, and rests with an allowed step. -/
theorem State.walk_restsOn {st : SchedStep} (hnone : s.sched.ready = none) (hready : s.walk.sched.ready = some st) :
    (s.sched.runState = .running ∧ s.sched.attached = none ∧ s.sched.minWait = none) ∧ s.walk.RestsOn st := by
  by_cases htaken : s.sched.runState = .running ∧ s.sched.ready = none ∧ s.sched.attached = none ∧
      s.sched.minWait = none ∧ 0 < s.mainLen
  · have hwalk : s.walk = walkMoves walkBound s := if_pos htaken
    obtain ⟨hrun, -, hattached, hwait, -⟩ := htaken
    rw [hwalk] at hready ⊢
    exact ⟨⟨hrun, hattached, hwait⟩, walkMoves_restsOn _ hnone hready⟩
  · rw [State.walk_of_not_taken htaken, hnone] at hready
    cases hready

end Moves

end Sys2Proof.Machine

namespace Sys2Proof
open Machine

/-- Settles O19: every move leaves alone what the walk leaves alone, and the one it rests after readies a step the
manual allows. -/
theorem walkRestsOnAnAllowedStep : Obligations.WalkRestsOnAnAllowedStep := by
  intro s
  have hkeeps := s.walk_keeps
  refine ⟨s.walk_frame, hkeeps.node, hkeeps.runState, hkeeps.safe, hkeeps.safeBroadcast, hkeeps.credit, hkeeps.pace,
    hkeeps.attached, hkeeps.detached, ?rests⟩
  case rests =>
    intro st hnone hready d
    obtain ⟨⟨hrun, hattached, hwait⟩, hrests⟩ := State.walk_restsOn hnone hready
    refine ⟨hrun, hattached, hwait, fun hkind => ?probe, fun hkind => ?main, fun hkind => ?interleave⟩
    case probe =>
      obtain ⟨hpos, hphase, ⟨h1, h30, hsweep, hoffline, hcount⟩, hlowest⟩ := hrests.probe hkind
      rw [hkeeps.health] at hoffline
      refine ⟨h1, h30, hpos, hphase, hsweep, hoffline, hcount, fun a ha1 ha30 hasweep haoff hacount => ?_⟩
      exact hlowest a ⟨ha1, ha30, hasweep, (hkeeps.health a).trans haoff, hacount⟩
    case main =>
      obtain ⟨hphase, hpos, hin, hnode, howed, hdue⟩ := hrests.main hkind
      have hentry : s.walk.mainEntry st.pos = s.mainEntry st.pos := by rw [State.mainEntry, hkeeps.tables]; rfl
      rw [State.SlotOwed, State.ilLen, State.params, hkeeps.tables] at howed
      rw [State.mainLen, hkeeps.tables] at hin
      rw [hentry] at hnode
      rw [State.MainDue, hentry, hkeeps.health, ← hnode] at hdue
      exact ⟨hphase, hpos, hin, hnode, hdue.2, howed, hdue.1⟩
    case interleave =>
      obtain ⟨hphase, howed, hpos, hnode, hon⟩ := hrests.interleave hkind
      rw [State.SlotOwed, State.ilLen, State.params, hkeeps.tables] at howed
      rw [State.ilNode, hkeeps.tables] at hnode
      rw [hkeeps.health] at hon
      exact ⟨hphase, howed.1, hpos, howed.2, hnode, hon⟩

/-- Settles O20: the moves by their conditions, and the boundary field by field. -/
theorem walkMovesAndTheCycleBoundary : Obligations.WalkMovesAndTheCycleBoundary := by
  intro s d i p period due owed taken entry mainDue rests late wait
  have hlate : s.overran = late := s.overran_eq
  have hwait : s.boundaryWait = wait := s.boundaryWait_eq
  refine ⟨State.walk_of_not_taken, fun htaken => if_pos htaken, fun k => rfl, ?probe, ?swept,
    State.walkMove_slotSkipped, State.walkMove_slot, fun hphase howed hin => ⟨State.walkMove_main hphase howed hin,
      State.walkMove_mainSkipped hphase howed hin⟩, ?past, ?boundary, ?node⟩
  case probe =>
    exact fun a hphase hdue hlowest => State.walkMove_probe hphase (State.dueProbe_some.mpr ⟨hdue, hlowest⟩)
  case swept => exact fun hphase hnone => State.walkMove_swept hphase (State.dueProbe_none.mpr hnone)
  case past =>
    intro hphase howed hpast
    rw [State.walkMove_boundary hphase howed hpast, State.cycleBoundary_tables, State.cycleBoundary_sched, ← hwait]
    rfl
  case boundary =>
    rw [← hlate, ← hwait, State.cycleBoundary_eq]
    rfl
  case node =>
    intro n h1 h30
    rw [State.cycleBoundary_node, NodeRt.atBoundary_eq]
    rfl

end Sys2Proof
end

section
/-! PROOFS. START, RESUME_CYCLE, the end of the min-period wait, and SAFE entry (R15, R29, R96, R113, R129, R131, R134,
R135). -/

namespace Sys2Proof.Machine

/-! ### The walk does not look at the link port -/

section Walk
variable {s : State}

theorem State.walkMove_withLink (s : State) (l : LinkPort) :
    (s.withLink l).walkMove = (s.walkMove.1.withLink l, s.walkMove.2) := by
  have hdue : (s.withLink l).dueProbe = s.dueProbe := rfl
  have hboundary : (s.withLink l).cycleBoundary = s.cycleBoundary.withLink l := by
    rw [State.cycleBoundary_eq, State.cycleBoundary_eq]
    rfl
  cases hphase : s.sched.phase with
  | sweep =>
    cases hprobe : s.dueProbe with
    | some a => rw [State.walkMove_probe hphase hprobe, State.walkMove_probe (s := s.withLink l) hphase hprobe]; rfl
    | none => rw [State.walkMove_swept hphase hprobe, State.walkMove_swept (s := s.withLink l) hphase hprobe]; rfl
  | main =>
    by_cases howed : s.SlotOwed
    · by_cases hoffline : s.health (s.ilNode s.sched.ilPointer) = .offline
      · rw [State.walkMove_slotSkipped hphase howed hoffline,
          State.walkMove_slotSkipped (s := s.withLink l) hphase howed hoffline]
        rfl
      · rw [State.walkMove_slot hphase howed hoffline, State.walkMove_slot (s := s.withLink l) hphase howed hoffline]
        rfl
    · by_cases hin : s.sched.mainIndex < s.mainLen
      · by_cases hmain : s.MainDue s.sched.mainIndex
        · rw [State.walkMove_main hphase howed hin hmain,
            State.walkMove_main (s := s.withLink l) hphase howed hin hmain]
          rfl
        · rw [State.walkMove_mainSkipped hphase howed hin hmain,
            State.walkMove_mainSkipped (s := s.withLink l) hphase howed hin hmain]
          rfl
      · rw [State.walkMove_boundary hphase howed (Nat.not_lt.mp hin),
          State.walkMove_boundary (s := s.withLink l) hphase howed (Nat.not_lt.mp hin), hboundary]
        rfl

theorem walkMoves_withLink (k : Nat) (s : State) (l : LinkPort) :
    walkMoves k (s.withLink l) = (walkMoves k s).withLink l := by
  induction k generalizing s with
  | zero => rfl
  | succ k ih =>
    simp only [walkMoves, State.walkMove_withLink, ih]
    split <;> rfl

theorem State.walk_withLink (s : State) (l : LinkPort) : (s.withLink l).walk = s.walk.withLink l := by
  by_cases htaken : s.sched.runState = .running ∧ s.sched.ready = none ∧ s.sched.attached = none ∧
      s.sched.minWait = none ∧ 0 < s.mainLen
  · have hwalk : s.walk = walkMoves walkBound s := if_pos htaken
    have hwalk' : (s.withLink l).walk = walkMoves walkBound (s.withLink l) := if_pos htaken
    rw [hwalk, hwalk', walkMoves_withLink]
  · rw [State.walk_of_not_taken htaken, State.walk_of_not_taken (s := s.withLink l) htaken]

/-- A kept ready step or attached step is kept, and no walk is taken. -/
theorem State.walk_of_kept (h : s.sched.ready.isSome = true ∨ s.sched.attached.isSome = true) : s.walk = s := by
  refine State.walk_of_not_taken fun ⟨_, hready, hattached, _⟩ => ?_
  rcases h with h | h
  · simp [hready] at h
  · simp [hattached] at h

end Walk

/-! ### What the transmitter's choice keeps -/

theorem State.takeNotice_keeps (s : State) :
    s.takeNotice.link.replies = s.link.replies ∧ s.takeNotice.link.counters = s.link.counters := by
  unfold State.takeNotice
  split <;> exact ⟨rfl, rfl⟩

theorem State.wake_keeps (s : State) :
    s.wake.link.replies = s.link.replies ∧ s.wake.link.counters = s.link.counters := by
  unfold State.wake State.txNext
  split
  · exact ⟨rfl, rfl⟩
  · split
    · split
      · exact s.countChoice.takeNotice_keeps
      · exact ⟨rfl, rfl⟩
    · split
      · exact s.takeNotice_keeps
      · split <;> exact ⟨rfl, rfl⟩

/-- What a walk and the transmitter's choice after it leave: the scheduler and the node table of the walk, and
everything the two do not change. -/
structure State.WalkedAndWoken (s t : State) : Prop where
  sched : t.sched = s.walk.sched
  nodes : t.nodes = s.walk.nodes
  line : t.line = s.line
  queue : t.queue = s.queue
  bulk : t.bulk = s.bulk
  images : t.images = s.images
  tables : t.tables = s.tables
  now : t.now = s.now
  resetAsserted : t.resetAsserted = s.resetAsserted
  upStrap : t.upStrap = s.upStrap
  downStrap : t.downStrap = s.downStrap
  pending : t.pending = s.pending

theorem State.walkedAndWoken (s : State) (l : LinkPort) : s.WalkedAndWoken (s.walk.withLink l).wake := by
  have hwake := (s.walk.withLink l).wake_frame
  have hwalk := s.walk_frame
  constructor <;> rw [hwake]
  case sched => rfl
  case nodes => rfl
  all_goals
    dsimp only [State.withLink]
    rw [hwalk]

/-! ### START, RESUME_CYCLE and the end of the wait -/

theorem exec_start (tag : Byte) (payload : List Byte) (s : State) :
    exec (.start tag payload) s = s.takeFrame "START" ⟨0, 0x40, tag, payload⟩
      fun s1 => .next (s1.takeStart ⟨0, 0x40, tag, payload⟩) := rfl

theorem exec_resumeCycle (tag : Byte) (payload : List Byte) (s : State) :
    exec (.resumeCycle tag payload) s = s.takeFrame "RESUME_CYCLE" ⟨0, 0x43, tag, payload⟩
      fun s1 => .next (s1.takeResume ⟨0, 0x43, tag, payload⟩) := rfl

theorem exec_minPeriodWaitExpiry_due {s : State} {e : Nat} (hwait : s.sched.minWait = some e) (hdue : e ≤ s.now) :
    exec .minPeriodWaitExpiry s = .next (s.withSched { s.sched with minWait := none }).walk.close := by
  change execMinPeriodWaitExpiry s = _
  rw [execMinPeriodWaitExpiry, if_pos (by simp [hwait, State.dueOpt, State.due, hdue])]
  rfl

/-- A frame whose owner runs the cycle, takes the walk and answers. -/
theorem State.takeFrame_walks {s : State} {f : UpFrame} {handle : State → Out} (mnemonic : String)
    (haccepts : s.accepts f = true)
    (hhandle : handle s.heard = .next ((s.heard.setRun .running).walk.answer f .ok [])) :
    ∃ t : State, s.takeFrame mnemonic f handle = .next t.follow ∧ (s.setRun .running).WalkedAndWoken t ∧
      t.link.replies = s.link.replies ++ [replyFrame f.addr f.cmd f.tag .ok []] := by
  have hwalk : (s.heard.setRun .running).walk = (s.setRun .running).walk.withLink s.heard.link :=
    State.walk_withLink (s.setRun .running) s.heard.link
  rw [State.takeFrame_accepts mnemonic handle haccepts, hhandle, hwalk]
  refine ⟨_, rfl, State.walkedAndWoken _ _, ?_⟩
  rw [(State.wake_keeps _).1]
  rfl

/-! ### SAFE entry (R135) -/

section Safe
variable {s : State}

theorem exec_silenceTimerExpiry_due {e : Nat} (htimer : s.link.silenceTimer = some e) (hdue : e ≤ s.now) :
    exec .silenceTimerExpiry s =
      .next (if s.sched.safe then s.withLink { s.link with silenceTimer := none }
        else (s.withLink { s.link with silenceTimer := none }).enterSafe).close := by
  change execSilenceTimerExpiry s = _
  rw [execSilenceTimerExpiry, if_pos (by simp [htimer, State.dueOpt, State.due, hdue])]
  rfl

theorem State.withdraw_none (h : s.line.phase.withdrawn = none) : s.withdraw = s := by
  rw [State.withdraw, h]
  rfl

theorem State.withdraw_some (h : s.line.phase.withdrawn ≠ none) :
    s.withdraw = s.withLine { s.line with
      phase := .idle
      counters := { s.line.counters with withdrawn := satInc s.line.counters.withdrawn } } := by
  rw [State.withdraw, if_pos (Option.isSome_iff_ne_none.mpr h)]
  rfl

/-- The bulk unit's part of SAFE entry (R113). -/
def Bulk.afterSafe (b : Bulk) (w : Option Request) : Bulk :=
  if Machine.segmentWithdrawn w then b.segmentWithdrawn.safeEntered else b.safeEntered

theorem Bulk.safeEntered_eq (b : Bulk) : b.safeEntered = { b with
    state := match b.state with
      | .running | .waiting _ => .suspended .safe
      | x => x } := by
  unfold Bulk.safeEntered
  cases h : b.state <;> simp only [← h]

theorem Bulk.safeEntered_state (b : Bulk) : b.safeEntered.state = match b.state with
    | .running | .waiting _ => .suspended .safe
    | x => x := by
  rw [Bulk.safeEntered_eq]

theorem Bulk.segmentWithdrawn_state (b : Bulk) : b.segmentWithdrawn.state = b.state := by
  unfold Bulk.segmentWithdrawn
  split <;> rfl

theorem Bulk.afterSafe_state (b : Bulk) (w : Option Request) : (b.afterSafe w).state = b.safeEntered.state := by
  unfold Bulk.afterSafe
  split
  · rw [Bulk.safeEntered_state, Bulk.safeEntered_state, Bulk.segmentWithdrawn_state]
  · rfl

/-- SAFE entry changes the transfer's state, and what the withdrawal of its segment changes. -/
theorem Bulk.afterSafe_eq (b : Bulk) (w : Option Request) :
    b.afterSafe w = { (if Machine.segmentWithdrawn w then b.segmentWithdrawn else b) with
      state := (b.afterSafe w).state } := by
  rw [Bulk.afterSafe_state]
  unfold Bulk.afterSafe
  split
  · rw [Bulk.safeEntered_eq, Bulk.safeEntered_state, Bulk.segmentWithdrawn_state]
  · rw [Bulk.safeEntered_eq]

/-- What SAFE entry completes: a PASS entry not on the line, or withdrawn (R96). -/
def Entry.goneInSafe (withdrawn : Bool) (e : Entry) : Bool := e.kind.isPass && (e.phase != .onLine || withdrawn)

theorem safeVerdict_eq (withdrawn : Bool) (e : Entry) :
    safeVerdict withdrawn e = if e.goneInSafe withdrawn then some (.safeState, []) else none := by
  simp [safeVerdict, Entry.goneInSafe]

theorem safeVerdict_isNone (withdrawn : Bool) (e : Entry) :
    (safeVerdict withdrawn e).isNone = !e.goneInSafe withdrawn := by
  rw [safeVerdict_eq]
  cases e.goneInSafe withdrawn <;> rfl

theorem repliesFor_safeVerdict (withdrawn : Bool) (e : Entry) :
    repliesFor (safeVerdict withdrawn) e =
      if e.goneInSafe withdrawn then e.tags.map fun x => ⟨natByte e.node ||| 0x80, 0x93, x.tag, [0x27]⟩ else [] := by
  rw [repliesFor, safeVerdict_eq]
  by_cases hgone : e.goneInSafe withdrawn = true
  · have hpass : e.kind.command.code ||| 0x80 = 0x93 := by
      simp only [Entry.goneInSafe, Bool.and_eq_true] at hgone
      cases hkind : e.kind <;> simp_all [EntryKind.isPass, EntryKind.command, Command.code]
    simp only [hgone, if_true, Entry.replies, Entry.tagList, List.map_map, Function.comp_def, replyFrame, hpass,
      Result.code]
  · simp only [hgone, Bool.false_eq_true, if_false]

/-- Replies given to some entries are given to those alone. -/
theorem flatMap_ite_eq_filter {α β : Type} (p : α → Bool) (g : α → List β) (l : List α) :
    (l.flatMap fun x => if p x then g x else []) = (l.filter p).flatMap g := by
  induction l with
  | nil => rfl
  | cons x l ih => cases hx : p x <;> simp [hx, ih]

/-- SAFE entry, block by block. -/
theorem State.enterSafe_blocks (s : State) :
    let w := s.line.phase.withdrawn
    let gone := safeVerdict (passWithdrawn w)
    s.enterSafe = { s with
      sched := { s.sched with safe := true, safeBroadcast := true }
      line := s.withdraw.line
      queue := ⟨s.queue.urgent.filter fun e => (gone e).isNone, s.queue.normal.filter fun e => (gone e).isNone⟩
      bulk := s.bulk.afterSafe w
      notices := s.notices.offer .safeEntered
      link := { s.link with replies := s.link.replies ++ s.queue.entries.flatMap (repliesFor gone) } } := by
  intro w gone
  have hwithdraw (u : State) (hline : u.line = s.line) : u.withdraw = u.withLine s.withdraw.line := by
    unfold State.withdraw
    rw [hline]
    split
    · simp only [State.setPhase, State.countLine, State.withLine, hline]
    · rw [← hline]
      rfl
  have hsafe := hwithdraw ((s.withSched { s.sched with safe := true, safeBroadcast := true }).offer .safeEntered) rfl
  simp only [State.enterSafe, hsafe]
  rfl

end Safe

end Sys2Proof.Machine

namespace Sys2Proof
open Machine

/-- Settles O17: the walk looks at no link port, so hearing and answering the frame leave it what it is. -/
theorem startResumeAndWaitEndTakeTheWalk : Obligations.StartResumeAndWaitEndTakeTheWalk := by
  refine ⟨?start, ?resume, ?wait⟩
  case start =>
    intro s tag f walked haccepts
    rw [exec_start]
    refine ⟨fun hsettled hdecided hrun => ?wrong, fun hsettled hdecided hrun hempty => ?empty, fun hrun hmain => ?walks⟩
    case wrong =>
      refine State.takeFrame_answers _ haccepts hsettled hdecided ?_
      rw [State.takeStart, if_pos (show s.heard.sched.runState ≠ .stopped from hrun)]
    case empty =>
      refine State.takeFrame_answers _ haccepts hsettled hdecided ?_
      rw [State.takeStart, if_neg (not_not_intro (show s.heard.sched.runState = .stopped from hrun)),
        if_pos (show s.heard.mainLen = 0 from hempty)]
    case walks =>
      have hhandle : s.heard.takeStart f = (s.heard.setRun .running).walk.answer f .ok [] := by
        rw [State.takeStart, if_neg (not_not_intro (show s.heard.sched.runState = .stopped from hrun)),
          if_neg (show ¬ s.heard.mainLen = 0 from hmain)]
      obtain ⟨t, hexec, ht, hreplies⟩ := State.takeFrame_walks (handle := fun s1 => .next (s1.takeStart f)) "START"
        haccepts (congrArg Host.Outcome.next hhandle)
      have hkeeps := (s.setRun .running).walk_keeps
      refine ⟨t, hexec, ht.sched, ht.nodes, ?_, ?_, ?_, by simpa [f, replyFrame, Result.code] using hreplies, ht.line, ht.queue, ht.bulk, ht.images, ht.tables,
        ht.now, ht.resetAsserted, ht.upStrap, ht.downStrap, ht.pending⟩
      · rw [ht.sched, hkeeps.runState]; rfl
      · rw [ht.sched, hkeeps.credit]; rfl
      · rw [ht.sched, hkeeps.pace]; rfl
  case resume =>
    intro s tag f running haccepts
    rw [exec_resumeCycle]
    refine ⟨fun hsettled hdecided hrun => ?wrong, fun hsettled hrun hkept => ?kept, fun hrun => ?walks⟩
    case wrong =>
      refine State.takeFrame_answers _ haccepts hsettled hdecided ?_
      rw [State.takeResume, if_neg (show ¬ s.heard.sched.runState = .suspended from hrun)]
    case kept =>
      refine State.takeFrame_answers_follow (u := s.heard.setRun .running) _ haccepts hsettled ?_ rfl rfl rfl
      rw [State.takeResume, if_pos (show s.heard.sched.runState = .suspended from hrun),
        State.walk_of_kept (s := s.heard.setRun .running) hkept]
    case walks =>
      have hhandle : s.heard.takeResume f = (s.heard.setRun .running).walk.answer f .ok [] := by
        rw [State.takeResume, if_pos (show s.heard.sched.runState = .suspended from hrun)]
      obtain ⟨t, hexec, ht, hreplies⟩ := State.takeFrame_walks (handle := fun s1 => .next (s1.takeResume f))
        "RESUME_CYCLE" haccepts (congrArg Host.Outcome.next hhandle)
      exact ⟨t, hexec, ht.sched, ht.nodes, by simpa [f, replyFrame, Result.code] using hreplies, ht.line, ht.queue, ht.bulk,
        ht.images, ht.tables, ht.now, ht.resetAsserted, ht.upStrap, ht.downStrap, ht.pending⟩
  case wait =>
    intro s e hwait hdue ended
    rw [exec_minPeriodWaitExpiry_due hwait hdue]
    refine ⟨fun hsettled hdecided hrun => ?resting, ?walks⟩
    case resting =>
      obtain ⟨harbitration, happlication⟩ := s.decided_iff.mp hdecided
      have hnone : ended.scheduleWant = true → s.scheduleWant = true := fun h => absurd (State.scheduleWant_iff.mp h).1 hrun
      have hended : ended.decided = true :=
        (State.decided_iff _).mpr ⟨State.arbitrationDue_withSched harbitration id hnone, happlication⟩
      have hwake : ended.wake = ended := State.wake_settled hsettled
      rw [State.walk_of_not_running (s := s.withSched { s.sched with minWait := none }) hrun]
      exact congrArg Host.Outcome.next ((State.close_of_decided hended).trans (by rw [hwake, hwake]))
    case walks =>
      have ht := ended.walkedAndWoken ended.walk.link
      have hlink : ended.walk.link = s.link := by rw [State.walk_frame]
      obtain ⟨hreplies, hcounters⟩ := (ended.walk.withLink ended.walk.link).wake_keeps
      exact ⟨_, rfl, ht.sched, ht.nodes, hreplies.trans (congrArg LinkPort.replies hlink),
        hcounters.trans (congrArg LinkPort.counters hlink), ht.line, ht.queue, ht.bulk, ht.images, ht.tables, ht.now,
        ht.resetAsserted, ht.upStrap, ht.downStrap, ht.pending⟩

/-- Settles O22: SAFE entry block by block; with SAFE on the timer stops and nothing is due or to be sent. -/
theorem silenceExpiryEntersSafe : Obligations.SilenceExpiryEntersSafe := by
  intro s e htimer hdue w gone
  rw [exec_silenceTimerExpiry_due htimer hdue]
  refine ⟨fun hsettled hdecided hsafe => ?on, fun hsafe => ?off⟩
  case on =>
    have hquiet : (s.withLink { s.link with silenceTimer := none }).decided = true :=
      (State.decided_congr rfl rfl rfl rfl rfl).trans hdecided
    have hwake : (s.withLink { s.link with silenceTimer := none }).wake = s.withLink { s.link with silenceTimer := none } :=
      State.wake_settled ((State.txSettled_withLink rfl rfl rfl rfl).trans hsettled)
    rw [if_pos hsafe, State.close_of_decided hquiet, hwake, hwake]
    rfl
  case off =>
    have hblocks := (s.withLink { s.link with silenceTimer := none }).enterSafe_blocks
    have hqueue (x : Entry) : (safeVerdict (passWithdrawn w) x).isNone = !gone x := safeVerdict_isNone _ x
    have hreplies : s.queue.entries.flatMap (repliesFor (safeVerdict (passWithdrawn w))) = _ :=
      (congrArg (s.queue.entries.flatMap ·) (funext (repliesFor_safeVerdict (passWithdrawn w)))).trans
        (flatMap_ite_eq_filter gone _ _)
    rw [if_neg (by simp [hsafe])]
    refine ⟨_, rfl, ?_⟩
    rw [hblocks]
    refine ⟨rfl, rfl, fun hw => ?noneWithdrawn, fun hw => ?withdrawn, fun cls => ?fifo,
      congrArg (s.link.replies ++ ·) hreplies, ?state, fun hw => ?kept, fun hw hphase => ?onLine,
      fun hw hphase => ?detached, fun hw hphase => ?other, rfl, rfl, rfl, rfl, rfl, rfl, rfl, rfl, rfl⟩
    case noneWithdrawn =>
      have h := State.withdraw_none (s := s.withLink { s.link with silenceTimer := none }) hw
      change (s.withLink { s.link with silenceTimer := none }).withdraw.line = s.line
      rw [h]
      rfl
    case withdrawn =>
      have h := State.withdraw_some (s := s.withLink { s.link with silenceTimer := none }) hw
      change (s.withLink { s.link with silenceTimer := none }).withdraw.line = _
      rw [h]
      rfl
    case fifo =>
      cases cls
      · exact congrArg (s.queue.urgent.filter ·) (funext hqueue)
      · exact congrArg (s.queue.normal.filter ·) (funext hqueue)
    case state => exact (s.bulk.afterSafe_state w).trans s.bulk.safeEntered_state
    case kept =>
      have h := s.bulk.afterSafe_eq w
      rwa [hw, if_neg Bool.false_ne_true] at h
    case onLine =>
      have h := s.bulk.afterSafe_eq w
      rwa [hw, if_pos rfl, Bulk.segmentWithdrawn, hphase] at h
    case detached =>
      have h := s.bulk.afterSafe_eq w
      rwa [hw, if_pos rfl, Bulk.segmentWithdrawn, hphase] at h
    case other =>
      have h := s.bulk.afterSafe_eq w
      rcases hphase with hphase | hphase <;> rwa [hw, if_pos rfl, Bulk.segmentWithdrawn, hphase] at h

end Sys2Proof
end

section
/-! PROOFS. The application of a pending commit, block by block (R53 to R55, R77, R91, R97, R116, R133, R161 to
R163). -/

namespace Sys2Proof.Machine

/-! ### The bulk unit's part and the offers (R116, R162; log entry 13) -/

section Offers
variable (u : State) (old : TableSet)

/-- The transfer record after an application (R116). -/
def State.bulkCommitted : Bulk := { u.bulk with
  state := if u.transferRemoved old then .ended (.failed .nodeRemoved) else u.bulk.state
  segPhase := if u.transferRemoved old = true ∧ u.bulk.segPhase = .retryPending then .none else u.bulk.segPhase
  cancel := u.bulk.cancel.filter fun c => !u.disabledBy old c.1 }

theorem SegPhase.dropRetry_eq (p : SegPhase) : p.dropRetry = if p = .retryPending then .none else p := by
  cases p <;> rfl

theorem State.bulkApplied_eq : u.bulkApplied old = { u with
    bulk := u.bulkCommitted old
    notices := if u.transferRemoved old then u.notices.offer (u.bulk.endNotice (.failed .nodeRemoved))
      else u.notices } := by
  unfold State.bulkApplied State.bulkCommitted
  cases hremoved : u.transferRemoved old with
  | true =>
    simp only [if_true, State.endTransfer, SegPhase.dropRetry_eq, true_and]
    rfl
  | false =>
    simp only [Bool.false_eq_true, if_false, false_and]
    rfl

theorem State.applicationOffers_eq : u.applicationOffers old = { u with
    bulk := u.bulkCommitted old
    notices := (u.applicationOffers old).notices
    choices := (u.applicationOffers old).choices } := by
  unfold State.applicationOffers
  simp only [State.bulkApplied_eq]
  split
  · split <;> rfl
  · rfl

theorem State.applicationOffers_kept (hkept : u.transferRemoved old = false) :
    (u.applicationOffers old).notices = u.notices.offer (.commitApplied u.tables.generation) := by
  have hkept' : (u.offer (.commitApplied u.tables.generation)).transferRemoved old = false := hkept
  simp only [State.applicationOffers, State.bulkApplied_eq, hkept, hkept', Bool.false_eq_true, if_false]
  rfl

theorem State.applicationOffers_removed (hremoved : u.transferRemoved old = true) :
    (u.applicationOffers old).notices =
        (u.notices.offer (.commitApplied u.tables.generation)).offer (u.bulk.endNotice (.failed .nodeRemoved)) ∨
      (u.applicationOffers old).notices =
        (u.notices.offer (u.bulk.endNotice (.failed .nodeRemoved))).offer (.commitApplied u.tables.generation) := by
  have hfirst : (u.countChoice.offer (.commitApplied u.tables.generation)).transferRemoved old = true := hremoved
  have hsecond : u.countChoice.transferRemoved old = true := hremoved
  simp only [State.applicationOffers, State.bulkApplied_eq, hremoved, hfirst, hsecond, if_true]
  cases Config.bulkEndFirst u.choices with
  | true => exact .inr rfl
  | false => exact .inl rfl

end Offers

/-! ### The records of a node (R53 to R55, R77) -/

section Records
variable {r : NodeRt} {i : Image} {old new : NodeConfig}

theorem NodeConfig.sameLengths_iff :
    old.sameLengths new = true ↔ ¬ (old.inputLen ≠ new.inputLen ∨ old.outputLen ≠ new.outputLen) := by
  simp [NodeConfig.sameLengths]

theorem NodeRt.align_eq : r.align new = { r with failCount :=
    if r.health = .offline then new.offlineThreshold.toNat
    else if (r.health = .suspect ∨ r.health = .probing) ∧ new.offlineThreshold.toNat ≤ r.failCount then
      new.offlineThreshold.toNat - 1
    else r.failCount } := by
  obtain ⟨health, _, _, _, _, _⟩ := r
  cases health <;> simp [NodeRt.align]

theorem NodeRt.applied_disabled (hold : old.enabled = true) (hnew : new.enabled = false) :
    r.applied old new = { r with health := .disabled, failCount := 0, countdown := 0, attention := false } := by
  simp [NodeRt.applied, hold, hnew]

theorem NodeRt.applied_changed (hnew : new.enabled = true)
    (h : old.enabled = false ∨ (old.inputLen ≠ new.inputLen ∨ old.outputLen ≠ new.outputLen)) :
    r.applied old new = { r with health := .probing, failCount := 0, countdown := 0, attention := false } := by
  have hnot : (old.enabled && old.sameLengths new) = false := by
    rcases h with h | h
    · rw [h, Bool.false_and]
    · rw [Bool.and_eq_false_iff]
      exact .inr (Bool.eq_false_iff.mpr (mt NodeConfig.sameLengths_iff.mp (not_not_intro h)))
  simp only [NodeRt.applied, hnew, hnot, if_true, Bool.false_eq_true, if_false]

theorem NodeRt.applied_kept (hold : old.enabled = true) (hnew : new.enabled = true)
    (h : ¬ (old.inputLen ≠ new.inputLen ∨ old.outputLen ≠ new.outputLen)) : r.applied old new = r.align new := by
  simp only [NodeRt.applied, hnew, hold, NodeConfig.sameLengths_iff.mpr h, Bool.and_self, if_true]

theorem NodeRt.applied_outside (hold : old.enabled = false) (hnew : new.enabled = false) : r.applied old new = r := by
  simp [NodeRt.applied, hold, hnew]

/-- The input record of a node whose input length the application keeps, and of every other (R77). -/
theorem Image.applied_input :
    (old.enabled = true → new.enabled = true → old.inputLen = new.inputLen →
      (i.applied old new).data = i.data ∧ (i.applied old new).valid = i.valid ∧ (i.applied old new).age = i.age ∧
        (i.applied old new).status = i.status) ∧
    (old.enabled = false ∨ new.enabled = false ∨ old.inputLen ≠ new.inputLen →
      (i.applied old new).valid = false ∧ (i.applied old new).data = List.replicate new.inputLen.toNat 0 ∧
        (i.applied old new).status = 0 ∧ (i.applied old new).age = 65535) ∧
    (i.applied old new).sequence = i.sequence := by
  unfold Image.applied
  refine ⟨fun hold hnew hlen => ?_, fun h => ?_, ?_⟩
  · simp only [hold, hnew, hlen, Bool.and_self, beq_self_eq_true, if_true]
    split <;> exact ⟨rfl, rfl, rfl, rfl⟩
  · have hnot : (old.enabled && new.enabled && old.inputLen == new.inputLen) = false := by
      rcases h with h | h | h <;> simp [h]
    simp only [hnot, Bool.false_eq_true, if_false]
    split <;> exact ⟨rfl, rfl, rfl, rfl⟩
  · simp only []
    split <;> split <;> rfl

/-- The output record likewise. -/
theorem Image.applied_output :
    (old.enabled = true → new.enabled = true → old.outputLen = new.outputLen →
      (i.applied old new).outSet = i.outSet ∧ (i.applied old new).outData = i.outData) ∧
    (old.enabled = false ∨ new.enabled = false ∨ old.outputLen ≠ new.outputLen →
      (i.applied old new).outSet = false ∧ (i.applied old new).outData = List.replicate new.outputLen.toNat 0) := by
  unfold Image.applied
  refine ⟨fun hold hnew hlen => ?_, fun h => ?_⟩
  · simp only [hold, hnew, hlen, Bool.and_self, beq_self_eq_true, if_true, Bool.true_and]
    split <;> exact ⟨rfl, rfl⟩
  · have hnot : (old.enabled && new.enabled && old.outputLen == new.outputLen) = false := by
      rcases h with h | h | h <;> simp [h]
    simp only [hnot, Bool.false_eq_true, if_false]
    exact ⟨rfl, rfl⟩

end Records

/-! ### The application up to its walk -/

section Applied
variable (s : State)

/-- The tables, the node table and the image store after an application (R162, R163). -/
def State.committed : State := (s.withTables s.tables.applied).recordsApplied s.tables.active

/-- The state of an application before the walk that follows it. -/
def State.restarted : State :=
  let u := ((s.committed.complete (s.committed.commitVerdict s.tables.active)).applicationOffers
    s.tables.active).silenceApplied
  u.withSched (u.restartSched true)

theorem State.apply_eq : s.apply = s.restarted.walk := rfl

/-- The entries completed, before the offers. -/
def State.answeredCommit : State := s.committed.complete (s.committed.commitVerdict s.tables.active)

theorem State.restarted_eq : s.restarted = { s.committed with
    sched := s.committed.restartSched true
    queue := s.answeredCommit.queue
    bulk := s.committed.bulkCommitted s.tables.active
    notices := (s.answeredCommit.applicationOffers s.tables.active).notices
    link := { s.answeredCommit.link with
      silenceTimer := if s.tables.shadow.line.silenceLimit = 0 then none else s.link.silenceTimer }
    choices := s.restarted.choices } := by
  have hoffers := s.answeredCommit.applicationOffers_eq s.tables.active
  have hchoices : s.restarted.choices = (s.answeredCommit.applicationOffers s.tables.active).choices := rfl
  have hrestarted : s.restarted = (s.answeredCommit.applicationOffers s.tables.active).silenceApplied.withSched
    ((s.answeredCommit.applicationOffers s.tables.active).silenceApplied.restartSched true) := rfl
  rw [hchoices, hrestarted]
  generalize s.answeredCommit.applicationOffers s.tables.active = x at hoffers ⊢
  rw [hoffers]
  rfl

theorem Entry.replies_eq (e : Entry) (r : Result) (content : List Byte) :
    e.replies r content = e.tags.map fun x =>
      ⟨natByte e.node ||| 0x80, e.kind.command.code ||| 0x80, x.tag, r.code :: content⟩ := by
  rw [Entry.replies, Entry.tagList, List.map_map]
  rfl

/-- What an application completes, in the words of R91 and R97. -/
theorem State.commitVerdict_eq (u : State) (old : TableSet) (e : Entry) :
    u.commitVerdict old e =
      let before := bankGet old.nodes NodeConfig.cleared e.node
      let after := u.cfg e.node
      if before.enabled && !after.enabled then
        some (.nodeRemoved, if e.kind = .refresh then u.reading e.node else [])
      else if (before.enabled && after.enabled) = true ∧ e.kind = .exchange ∧ before.outputLen ≠ after.outputLen then
        some (.nodeChanged, [])
      else if (before.enabled && after.enabled) = true ∧ e.kind = .refresh ∧ before.inputLen ≠ after.inputLen then
        some (.refreshFailed, u.reading e.node)
      else none := by
  simp only [State.commitVerdict]
  cases (bankGet old.nodes NodeConfig.cleared e.node).enabled with
  | false => simp
  | true =>
    cases (u.cfg e.node).enabled with
    | false => simp
    | true => cases hkind : e.kind <;> simp

theorem State.committed_node {n : Nat} (h1 : 1 ≤ n) (h30 : n ≤ 30) :
    s.committed.node n =
      (s.node n).applied (s.cfg n) (bankGet s.tables.shadow.nodes NodeConfig.cleared n) :=
  bankGet_tabulate _ _ h1 h30

theorem State.committed_image {n : Nat} (h1 : 1 ≤ n) (h30 : n ≤ 30) :
    s.committed.image n =
      (s.image n).applied (s.cfg n) (bankGet s.tables.shadow.nodes NodeConfig.cleared n) :=
  bankGet_tabulate _ _ h1 h30

end Applied

end Sys2Proof.Machine

namespace Sys2Proof
open Machine

/-- Settles O16: the application is the walk from the restarted schedule, whose blocks are read off one by one. -/
theorem commitApplicationTakesEffect : Obligations.CommitApplicationTakesEffect := by
  intro s hpending hidle hrun before after disabled kept removed applied ended
  have hv := s.restarted_eq
  refine ⟨s.restarted, exec_commitApplication_due (State.applicationDue_iff.mpr ⟨hpending, hidle, hrun⟩), ?_⟩
  intro verdict
  have hreading (n : Nat) : s.restarted.reading n = s.committed.reading n := by rw [hv]; rfl
  have hnode (n : Nat) : s.restarted.node n = s.committed.node n := by rw [hv]; rfl
  have himage (n : Nat) : s.restarted.image n = s.committed.image n := by rw [hv]; rfl
  have hverdict : s.committed.commitVerdict s.tables.active = verdict := by
    funext e
    rw [State.commitVerdict_eq]
    simp only [verdict, hreading]
    rfl
  have hremoved : s.committed.transferRemoved s.tables.active = removed := rfl
  refine ⟨by rw [hv]; rfl, ?sched, fun n h1 h30 => ?records, fun cls => ?queue, ?link, by rw [hv]; rfl, fun hkept => ?one,
    fun hgone => ?two, by rw [hv]; rfl, by rw [hv]; rfl, by rw [hv]; rfl, by rw [hv]; rfl, by rw [hv]; rfl,
    by rw [hv]; rfl⟩
  case sched =>
    rw [hv]
    exact State.restartSched_eq _ _
  case records =>
    intro old new r r' changed
    have hr' : r' = r.applied old new := (hnode n).trans (s.committed_node h1 h30)
    have hi' : s.restarted.image n = (s.image n).applied old new := (himage n).trans (s.committed_image h1 h30)
    rw [hr', hi']
    obtain ⟨hinput, hinvalid, hsequence⟩ := Image.applied_input (i := s.image n) (old := old) (new := new)
    obtain ⟨houtput, hunset⟩ := Image.applied_output (i := s.image n) (old := old) (new := new)
    exact ⟨NodeRt.applied_disabled, NodeRt.applied_changed,
      fun hold hnew h => (NodeRt.applied_kept hold hnew h).trans NodeRt.align_eq, NodeRt.applied_outside, hinput, hinvalid,
      hsequence, houtput, hunset⟩
  case queue =>
    rw [hv, ← hverdict]
    cases cls <;> rfl
  case link =>
    rw [hv]
    have hreplies : s.answeredCommit.link.replies = s.link.replies ++ s.queue.entries.flatMap (repliesFor verdict) := by
      rw [← hverdict]
      exact State.complete_replies _ _
    have hlink : s.answeredCommit.link = { s.link with replies := s.answeredCommit.link.replies } := rfl
    rw [hlink, hreplies]
    refine congrArg (fun l => ({ s.link with
      replies := s.link.replies ++ s.queue.entries.flatMap l
      silenceTimer := if s.tables.shadow.line.silenceLimit = 0 then none else s.link.silenceTimer } : LinkPort))
      (funext fun e => ?_)
    rw [repliesFor]
    cases verdict e with
    | none => rfl
    | some answer => exact Entry.replies_eq e answer.1 answer.2
  case one =>
    rw [hv]
    exact State.applicationOffers_kept s.answeredCommit _ hkept
  case two =>
    rw [hv]
    exact State.applicationOffers_removed s.answeredCommit _ hgone

end Sys2Proof
end

section
/-! PROOFS. The line controller's events before the end of an attempt, and the tick of the timebase. -/

namespace Sys2Proof.Machine

variable {s : State} {o : Order}

/-! ### Sending -/

theorem State.dueOpt_some {t : Nat} (h : t ≤ s.now) : s.dueOpt (some t) = true := decide_eq_true h

theorem exec_gapTimerExpiry_due {t : Nat} (hphase : s.line.phase = .gapWait o (some t)) (ht : t ≤ s.now) :
    exec .gapTimerExpiry s = .next (s.beginSending o) := by
  simp only [exec, execGapTimerExpiry, hphase, s.dueOpt_some ht, if_true]

theorem exec_lastCharacterSent_sending {frame : List Byte} {output : Bool}
    (hphase : s.line.phase = .sending o frame output) :
    exec .lastCharacterSent s =
      if o.request = .safe then done (s.frameSent o output) else .next (s.frameSent o output) := by
  simp only [exec, execLastCharacterSent, hphase]

theorem exec_lastCharacterSent_cut (hphase : s.line.phase.isSending = false) (hcut : s.line.cutChar = true) :
    exec .lastCharacterSent s =
      .next (s.withLine { s.line with phase := s.gapAfterCut, cutChar := false, quietSince := s.now }) := by
  simp only [exec, execLastCharacterSent, hcut, if_true]
  split
  case h_1 o frame output heq => simp [heq, LinePhase.isSending] at hphase
  case h_2 => rfl

/-! ### Received characters -/

theorem exec_downstreamCharacterStart (hreset : s.resetAsserted = false) :
    exec .downstreamCharacterStart s = .next (s.withLine
      { s.line with phase := s.line.phase.charStarted, charIn := true, charForeign := s.line.phase.isSending }) := by
  simp only [exec, execDownstreamCharacterStart, hreset, Bool.false_eq_true, if_false]

theorem State.beginsReply_foreign {byte : Byte} (h : s.line.charForeign = true) : s.beginsReply byte = false := by
  simp only [State.beginsReply, h, Bool.not_true, Bool.and_false]

theorem State.beginsReply_sync (h : s.line.charForeign = false) : s.beginsReply downSync = true := by
  simp only [State.beginsReply, h, Bool.not_false, Bool.and_true, BEq.rfl]

theorem State.beginsReply_other {byte : Byte} (h : byte ≠ 0xC6 ∨ s.line.charForeign = true) :
    s.beginsReply byte = false := by
  rcases h with hbyte | hforeign
  · simp only [State.beginsReply, beq_eq_false_iff_ne.mpr (show byte ≠ downSync from hbyte), Bool.false_and]
  · exact State.beginsReply_foreign hforeign

theorem exec_strayByte_awaiting {byte : Byte} {output : Bool} {t : Nat} (hreset : s.resetAsserted = false)
    (hphase : s.line.phase = .awaiting o output t) (hbyte : s.beginsReply byte = false) :
    exec (.strayByte byte) s = .next s.stray := by
  simp only [exec, execStrayByte, hreset, hphase, hbyte, Bool.false_eq_true, if_false]

theorem exec_replySyncArrival_awaiting {output : Bool} {t : Nat} (hreset : s.resetAsserted = false)
    (hphase : s.line.phase = .awaiting o output t) :
    exec .replySyncArrival s = if s.beginsReply downSync then
        .next (s.charArrived.setPhase (.receiving o output [] s.downTimer)) else .next s.stray := by
  simp only [exec, execReplySyncArrival, hreset, hphase, Bool.false_eq_true, if_false]

theorem exec_replyByteCollected_receiving {byte : Byte} {output : Bool} {got : List Byte} {timer : Option Nat}
    (hreset : s.resetAsserted = false) (hphase : s.line.phase = .receiving o output got timer)
    (hlast : replyLastByte got = false) :
    exec (.replyByteCollected byte) s = .next (s.charArrived.setPhase
      (if lenTooLarge (got ++ [byte]) then .draining o output s.downTimer
        else .receiving o output (got ++ [byte]) s.downTimer)) := by
  simp only [exec, execReplyByteCollected, hreset, hphase, hlast, Bool.false_eq_true, if_false]
  split <;> rfl

theorem replyLastByte_short {got : List Byte} (h : got.length ≤ 2) : replyLastByte got = false := by
  match got, h with
  | [], _ | [_], _ | [_, _], _ => rfl

theorem replyLastByte_before {addr kind len : Byte} {rest : List Byte} (h : rest.length ≤ len.toNat) :
    replyLastByte (addr :: kind :: len :: rest) = false :=
  beq_eq_false_iff_ne.mpr (by omega)

theorem lenTooLarge_short {got : List Byte} (byte : Byte) (h : got.length ≤ 1) :
    lenTooLarge (got ++ [byte]) = false := by
  match got, h with
  | [], _ | [_], _ => rfl

theorem lenTooLarge_longer (addr kind len byte : Byte) (rest : List Byte) :
    lenTooLarge (addr :: kind :: len :: rest ++ [byte]) = false := by
  cases rest <;> rfl

/-! ### The verdict on a complete reply -/

section
variable {cfg : NodeConfig} {addr kind : Byte} {payload : List Byte}

/-- What a reply of the addressed node is judged to be. -/
theorem judgeChecked_addressed (hdir : addr.getLsbD 7 = true) (hsource : (addr &&& 0x1F).toNat = o.addr) :
    judgeChecked cfg o addr kind payload =
      if kind = 0x8E then
        match payload with
        | [code] => .nodeError code
        | _ => .failure .malformed
      else
        match validContent cfg o.request kind payload with
        | some c => .replied c
        | none => .failure .malformed :=
  (if_neg (by rw [hdir]; nofun)).trans (if_neg (not_not.mpr hsource))

theorem judgeChecked_valid {c : ReplyContent} (hdir : addr.getLsbD 7 = true)
    (hsource : (addr &&& 0x1F).toNat = o.addr) (hkind : kind ≠ 0x8E)
    (hvalid : validContent cfg o.request kind payload = some c) :
    judgeChecked cfg o addr kind payload = .replied c := by
  rw [judgeChecked_addressed hdir hsource, if_neg hkind, hvalid]

theorem validContent_segment {i : Nat} {last cancel : Bool} {data : List Byte}
    (hack : ¬ (kind = 0x84 ∧ payload = [natByte i])) (hbusy : ¬ (kind = 0x85 ∧ payload = [natByte i, 0x01]))
    (hreject : ¬ (kind = 0x85 ∧ payload = [natByte i, 0x02])) :
    validContent cfg (.segment i last cancel data) kind payload = none := by
  match payload with
  | [] => rfl
  | [j] => exact if_neg fun ⟨hkind, hj⟩ => hack ⟨hkind, by rw [hj]⟩
  | [j, reason] =>
    by_cases h : kind = 0x85 ∧ j = natByte i
    · obtain ⟨hkind, hj⟩ := h
      have hone : reason ≠ 0x01 := fun hr => hbusy ⟨hkind, by rw [hj, hr]⟩
      have htwo : reason ≠ 0x02 := fun hr => hreject ⟨hkind, by rw [hj, hr]⟩
      simp only [validContent, hkind, hj, and_self, if_true, hone, htwo, if_false]
    · exact if_neg h
  | _ :: _ :: _ :: _ => rfl

/-- A reply that is neither an ERROR nor of the kind and layout its request expects is MALFORMED. -/
theorem judgeChecked_malformed (herror : ¬ (kind = 0x8E ∧ payload.length = 1))
    (hsource : (addr &&& 0x1F).toNat = o.addr)
    (hvalid : validContent cfg o.request kind payload = none) :
    judgeChecked cfg o addr kind payload = .failure .malformed := by
  by_cases hdir : addr.getLsbD 7 = false
  · exact if_pos hdir
  rw [judgeChecked_addressed (Bool.of_not_eq_false hdir) hsource, hvalid]
  split
  case isTrue hkind =>
    match payload with
    | [] | _ :: _ :: _ => rfl
    | [_] => exact absurd ⟨hkind, rfl⟩ herror
  case isFalse => rfl

end

/-! ### The tick -/

theorem State.dueOpt_iff {t : Option Nat} : s.dueOpt t = true ↔ ∃ e, t = some e ∧ e ≤ s.now := by
  cases t with
  | none => exact iff_of_false (by simp [State.dueOpt]) (by simp)
  | some e => simp [State.dueOpt, State.due]

theorem State.overdue_iff : s.overdue = true ↔
    (∃ t ∈ s.timers, t < s.now) ∨ ∃ e, s.sched.minWait = some e ∧ e ≤ s.now := by
  rw [State.overdue, Bool.or_eq_true, List.any_eq_true, State.dueOpt_iff]
  simp only [decide_eq_true_iff]

theorem Image.tick_eq (i : Image) : i.tick = { i with age :=
    if i.valid = false then i.age else if i.age = 65535 then 65535 else i.age + 1 } := by
  have hage : satInc i.age = if i.age = 65535 then 65535 else i.age + 1 := by
    rw [satInc, show BitVec.allOnes 16 = (65535 : Half) from rfl]
    split
    · assumption
    · rfl
  cases hvalid : i.valid with
  | true => rw [Image.tick, if_pos hvalid, hage, if_neg (show ¬ (true = false) from Bool.noConfusion), hvalid]
  | false => rw [Image.tick, hvalid, if_neg Bool.noConfusion, if_pos rfl, ← hvalid]

end Sys2Proof.Machine

namespace Sys2Proof
open Machine

/-- Settles O39: the branches of the gap's rule, then the frame request by request. -/
theorem ordersWaitOutTheGap : Obligations.OrdersWaitOutTheGap := by
  intro s o quiet sending
  refine ⟨fun _ => ⟨fun hchar => ?_, fun hin hcut hquiet => ?_, fun hin hcut hquiet => ?_⟩,
    fun t hphase ht => exec_gapTimerExpiry_due hphase ht, ?frame⟩
  · exact if_pos (by rw [Bool.or_eq_true]; exact hchar)
  · exact (if_neg (by simp [hin, hcut])).trans (if_neg (Nat.not_le.mpr hquiet))
  · exact (if_neg (by simp [hin, hcut])).trans (if_pos hquiet)
  case frame =>
    intro supplied framed
    have hblock (hreq : o.request = .exchange) :
        s.blockFor o = if supplied then some (s.image o.addr).outData else none := by
      rw [State.blockFor, hreq]
      rfl
    have hframe : s.buildFrame o = framed o.request.kindCode (o.request.payload (s.blockFor o)) := rfl
    refine ⟨fun hreq hsupplied => ?_, fun hreq hsupplied => ?_, fun hreq => ?_, fun hreq => ?_, fun bytes hreq => ?_,
      fun i last cancel data hreq => ?_, fun hreq => ?_⟩
    · rw [hframe, hblock hreq, hreq, hsupplied]
      exact ⟨rfl, rfl⟩
    · rw [hframe, hblock hreq, hreq, hsupplied]
      exact ⟨rfl, rfl⟩
    · rw [State.blockFor]
      split
      · exact absurd ‹_› hreq
      · rfl
    · rw [hframe, hreq]
      rfl
    · rw [hframe, hreq]
      rfl
    · rw [hframe, hreq]
      rfl
    · rw [hframe, hreq]
      rfl

/-- Settles O40: the frame's last character by its request, and the cut character by the phase it ends in. -/
theorem lastCharacterEndsTheFrame : Obligations.LastCharacterEndsTheFrame := by
  intro s o frame output sent cut
  refine ⟨fun hphase hsafe => ?_, fun hphase hother => ?_, fun hphase hcut => ?_, fun hphase hcut hin => ?_,
    fun hphase hcut hin => ?_⟩
  · rw [exec_lastCharacterSent_sending hphase, if_pos hsafe, State.frameSent, State.sentPhase, if_pos hsafe, hsafe]
    rfl
  · rw [exec_lastCharacterSent_sending hphase, if_neg hother, State.frameSent, State.sentPhase, if_neg hother]
    simp only [sent, State.countLine, countSent, hother, if_false, Bool.false_eq_true]
    rfl
  · rw [exec_lastCharacterSent_cut (by rw [hphase]; rfl) hcut, State.gapAfterCut, hphase]
    rfl
  · rw [exec_lastCharacterSent_cut (by rw [hphase]; rfl) hcut, State.gapAfterCut, hphase, hin]
    rfl
  · rw [exec_lastCharacterSent_cut (by rw [hphase]; rfl) hcut, State.gapAfterCut, hphase, hin]
    rfl

/-- Settles O41: each event by the phase it falls in. -/
theorem downstreamCharactersAreTaken : Obligations.DownstreamCharactersAreTaken := by
  constructor
  · intro s byte o output got frame gap t hreset begun started stray full
    have hstart := exec_downstreamCharacterStart hreset
    have hstray : s.stray = stray s.line.phase := rfl
    refine ⟨fun hphase => ⟨?_, ?_⟩, fun hphase => ⟨?_, fun hcut => ?_, fun hcut => ?_⟩, fun hphase => ⟨?_, ?_⟩,
      fun hphase => ⟨?_, fun hbyte => ?_, fun hforeign => ?_⟩, fun hphase => ?_, fun hphase => ?_⟩
    · rw [hstart, hphase]
      rfl
    · simp only [exec, execStrayByte, hreset, hphase, hstray, Bool.false_eq_true, if_false]
    · rw [hstart, hphase]
      rfl
    · simp only [exec, execStrayByte, hreset, hphase, hcut, Bool.false_eq_true, if_false]
      rfl
    · simp only [exec, execStrayByte, hreset, hphase, hcut, Bool.false_eq_true, if_false, if_true]
      rfl
    · rw [hstart, hphase]
      rfl
    · simp only [exec, execStrayByte, hreset, hphase, hstray, Bool.false_eq_true, if_false]
    · rw [hstart, hphase]
      rfl
    · rw [exec_strayByte_awaiting hreset hphase (State.beginsReply_other hbyte), hstray, hphase]
    · rw [exec_replySyncArrival_awaiting hreset hphase, State.beginsReply_foreign hforeign, hstray, hphase]
      rfl
    · rw [hstart, hphase]
      rfl
    · rw [hstart, hphase]
      rfl
  · intro s byte addr kind len rest got o output timer t hreset restarted arrived
    refine ⟨fun hphase hforeign => ?_,
      fun hphase => ⟨fun hshort => ?_, fun hgot hlen => ?_, fun hgot hlen => ?_, fun hgot hrest => ?_⟩,
      fun hphase => ?_⟩
    · rw [exec_replySyncArrival_awaiting hreset hphase, State.beginsReply_sync hforeign]
      rfl
    · rw [exec_replyByteCollected_receiving hreset hphase (replyLastByte_short (by omega)), lenTooLarge_short byte hshort]
      rfl
    · subst hgot
      have hfits : lenTooLarge ([addr, kind] ++ [byte]) = false := decide_eq_false (Nat.not_lt.mpr hlen)
      rw [exec_replyByteCollected_receiving hreset hphase rfl, hfits]
      rfl
    · subst hgot
      have htoo : lenTooLarge ([addr, kind] ++ [byte]) = true := decide_eq_true hlen
      rw [exec_replyByteCollected_receiving hreset hphase rfl, htoo]
      rfl
    · subst hgot
      have hrest := hrest
      rw [exec_replyByteCollected_receiving hreset hphase (replyLastByte_before hrest), lenTooLarge_longer]
      rfl
    · simp only [exec, execReplyByteCollected, hreset, hphase, Bool.false_eq_true, if_false]
      rfl

/-- Settles O42: with a good check pair the verdict is that of steps 4 to 8, taken row by row. -/
theorem repliesAreValidated : Obligations.RepliesAreValidated := by
  intro cfg o addr kind len payload covered verdict inLen
  have hverdict : verdict = judgeChecked cfg o addr kind payload :=
    (judgeReply_append_pair cfg o addr kind len _ _ payload).trans (if_pos rfl)
  rw [hverdict]
  refine ⟨fun hdir => if_pos hdir, fun hdir hsource => ?_, fun hdir hsource => ?_⟩
  · exact (if_neg (by rw [hdir]; nofun)).trans (if_pos hsource)
  refine ⟨fun code hkind hpayload => ?_, fun status block hreq hkind hpayload hlen => ?_,
    fun status nodeType hreq hkind hpayload => ?_, fun sent status bytes hreq hkind hpayload hlen => ?_,
    fun i last cancel data hreq => ⟨fun hkind hpayload => ?_, fun hkind hpayload => ?_, fun hkind hpayload => ?_⟩,
    fun herror hdata hstatus hpass hsegment => ?_⟩
  · rw [judgeChecked_addressed hdir hsource, if_pos hkind, hpayload]
  · refine judgeChecked_valid hdir hsource (by rw [hkind]; decide) ?_
    rw [hreq, hpayload, validContent, if_pos ⟨hkind, hlen⟩]
  · refine judgeChecked_valid hdir hsource (by rw [hkind]; decide) ?_
    rw [hreq, hpayload, validContent, if_pos hkind]
  · refine judgeChecked_valid hdir hsource (by rw [hkind]; decide) ?_
    rw [hreq, hpayload, validContent, if_pos ⟨hkind, hlen⟩]
  · refine judgeChecked_valid hdir hsource (by rw [hkind]; decide) ?_
    rw [hreq, hpayload, validContent, if_pos ⟨hkind, rfl⟩]
  · refine judgeChecked_valid hdir hsource (by rw [hkind]; decide) ?_
    rw [hreq, hpayload, validContent, if_pos ⟨hkind, rfl⟩]
    rfl
  · refine judgeChecked_valid hdir hsource (by rw [hkind]; decide) ?_
    rw [hreq, hpayload, validContent, if_pos ⟨hkind, rfl⟩]
    rfl
  · refine judgeChecked_malformed herror hsource ?_
    cases hreq : o.request with
    | exchange =>
      match payload with
      | [] => rfl
      | _ :: block =>
        exact if_neg fun ⟨hkind, hlen⟩ => hdata ⟨hreq, hkind, by rw [List.length_cons, hlen]; omega⟩
    | status =>
      match payload with
      | [] | [_] | _ :: _ :: _ :: _ => rfl
      | [_, _] => exact if_neg fun hkind => hstatus ⟨hreq, hkind, rfl⟩
    | pass sent =>
      match payload with
      | [] => rfl
      | _ :: bytes =>
        exact if_neg fun ⟨hkind, hlen⟩ => hpass ⟨⟨sent, hreq⟩, hkind, Nat.le_add_left 1 _, Nat.succ_le_succ hlen⟩
    | segment i last cancel data =>
      obtain ⟨hack, hbusy, hreject⟩ := hsegment i last cancel data hreq
      exact validContent_segment hack hbusy hreject
    | safe => rfl

/-- Settles O49: the tick waits exactly while an expiry is overdue, and ages each image. -/
theorem tickAgesTheImages : Obligations.TickAgesTheImages := by
  intro s
  refine ⟨s.overdue_iff, fun hoverdue => ?_,
    fun hclear => ⟨tabulate fun n => (s.image n).tick, ?_, fun n h1 h30 => ?_⟩⟩
  · simp only [exec, execTimebaseTick, hoverdue, if_true]
    rfl
  · simp only [exec, execTimebaseTick, hclear, Bool.false_eq_true, if_false]
    rfl
  · rw [bankGet_tabulate _ _ h1 h30, Image.tick_eq]

end Sys2Proof
end

section
/-! PROOFS. Offers of notices, the acknowledgement and the resend timer, and the end of an upstream frame. -/

namespace Sys2Proof.Machine

/-! ### Offers (R142 to R144) -/

theorem Notice.join_of_key_ne {offer w : Notice} (h : offer.key = none ∨ w.key ≠ offer.key) : offer.join w = none := by
  cases hjoin : offer.join w with
  | none => rfl
  | some j =>
    have hj : w.key = offer.key ∧ offer.key ≠ none := by
      unfold Notice.join at hjoin
      split at hjoin <;> simp_all [Notice.key]
    rcases h with hnone | hother
    · exact absurd hnone hj.2
    · exact absurd hj.1 hother

/-- An offer passes over the notices it may not join. -/
theorem joinWaiting_append {offer : Notice} {before : List Notice} (l : List Notice)
    (h : ∀ w ∈ before, w.key ≠ offer.key) : joinWaiting offer (before ++ l) = (joinWaiting offer l).map (before ++ ·) := by
  induction before with
  | nil => simp
  | cons w before ih =>
    have hw : offer.join w = none := Notice.join_of_key_ne (.inr (h w (List.mem_cons_self ..)))
    simp only [List.cons_append, joinWaiting, hw, ih fun x hx => h x (List.mem_cons_of_mem _ hx), Option.map_map]
    rfl

theorem joinWaiting_first {offer w j : Notice} {before after : List Notice} (h : ∀ x ∈ before, x.key ≠ offer.key)
    (hjoin : offer.join w = some j) : joinWaiting offer (before ++ w :: after) = some (before ++ j :: after) := by
  rw [joinWaiting_append _ h, joinWaiting, hjoin]
  rfl

/-- An offer that finds no notice of its kind and node joins none. -/
theorem joinWaiting_free {offer : Notice} {l : List Notice} (h : offer.key = none ∨ ∀ w ∈ l, w.key ≠ offer.key) :
    joinWaiting offer l = none := by
  induction l with
  | nil => rfl
  | cons w l ih =>
    have hw : offer.join w = none := Notice.join_of_key_ne (h.imp_right fun h => h w (List.mem_cons_self ..))
    have hl := ih (h.imp_right fun h x hx => h x (List.mem_cons_of_mem _ hx))
    simp only [joinWaiting, hw, hl, Option.map_none]

/-- An offer of a kind without a count joins a waiting notice of its kind and node without a trace (R143). -/
theorem joinWaiting_same {offer : Notice} {l : List Notice} (hjoin : ∀ w, w.key = offer.key → offer.join w = some w)
    (hmem : offer ∈ l) : joinWaiting offer l = some l := by
  induction l with
  | nil => cases hmem
  | cons w l ih =>
    by_cases hw : w.key = offer.key
    · simp only [joinWaiting, hjoin w hw]
    · have hrest : offer ∈ l := (List.mem_cons.mp hmem).resolve_left fun h => hw (by rw [h])
      simp only [joinWaiting, Notice.join_of_key_ne (.inr hw), ih hrest, Option.map_some]

namespace NoticeQueue
variable {q : NoticeQueue} {n : Notice}

theorem offer_joined {ws : List Notice} (h : joinWaiting n q.waiting = some ws) :
    q.offer n = { q with waiting := ws } := by
  simp only [offer, h]

theorem offer_appended (h : joinWaiting n q.waiting = none)
    (hroom : q.inFlight.toList.length + q.waiting.length < 24) :
    q.offer n = { q with waiting := q.waiting ++ [n] } := by
  simp only [offer, h]
  exact if_pos hroom

theorem offer_lost (h : joinWaiting n q.waiting = none)
    (hfull : 24 ≤ q.inFlight.toList.length + q.waiting.length) :
    q.offer n = { q with
      lost := satInc q.lost, overflowPending := q.overflowPending || !q.waiting.contains .overflow } := by
  simp only [offer, h]
  exact if_neg (Nat.not_lt.mpr hfull)

end NoticeQueue

theorem satInc_byte (b : Byte) : satInc b = if b = 255 then 255 else b + 1 := by
  by_cases h : b = 255
  · rw [if_pos h, h]
    rfl
  · rw [if_neg h]
    exact if_neg h

/-! ### The acknowledgement (R146, R148) -/

section
variable {s : State}

theorem exec_noticeAck (s : State) (tag sequence : Byte) :
    exec (.noticeAck tag [sequence]) s = s.takeFrame "NOTICE_ACK" ⟨0, 0x47, tag, [sequence]⟩
      fun s1 => .next (s1.takeAck ⟨0, 0x47, tag, [sequence]⟩ sequence) := rfl

theorem State.takeAck_stale {f : UpFrame} {sequence : Byte}
    (h : ∀ g, s.notices.inFlight = some g → g.sequence ≠ sequence) :
    s.takeAck f sequence = s.answer f .staleAck [] := by
  unfold State.takeAck
  split
  case h_1 => rfl
  case h_2 g hflight => exact if_neg (h g hflight)

theorem State.takeAck_removes {f : UpFrame} {g : InFlight} (hflight : s.notices.inFlight = some g) :
    s.takeAck f g.sequence = (s.withNotices (s.notices.removed g)).answer f .ok [] := by
  simp only [State.takeAck, hflight, if_true]

theorem NoticeQueue.removed_eq (q : NoticeQueue) (g : InFlight) : q.removed g =
    { inFlight := none
      waiting := q.waiting ++ (if q.overflowPending then [.overflow] else [])
      sequence := q.sequence
      lost := q.lost - (match g.content with | .overflow l => l | _ => 0)
      overflowPending := false } := by
  have hwaiting : (if q.overflowPending then q.waiting ++ [.overflow] else q.waiting) =
      q.waiting ++ (if q.overflowPending then [.overflow] else []) := by
    split
    · rfl
    · exact (List.append_nil _).symm
  rw [NoticeQueue.removed, hwaiting]
  rfl

/-- What an IDLE transmitter's choice may do to the notice queue while no notice is in flight. -/
theorem State.wake_notices (hflight : s.notices.inFlight = none) :
    s.wake.notices = s.notices ∨ ∃ w rest, s.notices.waiting = w :: rest ∧ s.wake.notices = { s.notices with
      inFlight := some ⟨s.fixNotice w, s.notices.sequence, some (s.now + s.tables.active.line.noticeResend.toNat)⟩
      waiting := rest
      sequence := s.notices.sequence + 1 } := by
  have htaken (t : State) (hnotices : t.notices = s.notices) (hnow : t.now = s.now) (htables : t.tables = s.tables)
      (hfix : t.fixNotice = s.fixNotice) :
      t.takeNotice.notices = s.notices ∨ ∃ w rest, s.notices.waiting = w :: rest ∧
        t.takeNotice.notices = { s.notices with
          inFlight := some ⟨s.fixNotice w, s.notices.sequence, some (s.now + s.tables.active.line.noticeResend.toNat)⟩
          waiting := rest
          sequence := s.notices.sequence + 1 } := by
    cases hwaiting : s.notices.waiting with
    | nil =>
      refine .inl ?_
      simp only [State.takeNotice, State.noticeTaken, hnotices, hflight, hwaiting]
    | cons w rest =>
      refine .inr ⟨w, rest, rfl, ?_⟩
      rw [State.takeNotice_first (s := t) (by rw [hnotices, hflight]) (by rw [hnotices, hwaiting])]
      simp only [hnotices, hnow, htables, hfix]
  unfold State.wake State.txNext
  split
  · exact .inl rfl
  · split
    · split
      · exact htaken s.countChoice rfl rfl rfl rfl
      · exact .inl rfl
    · split
      · exact htaken s rfl rfl rfl rfl
      · split <;> exact .inl rfl

/-! ### The resend timer (R147) -/

theorem exec_noticeResendTimerExpiry_due {g : InFlight} {t : Nat} (hflight : s.notices.inFlight = some g)
    (hresend : g.resend = some t) (ht : t ≤ s.now) :
    exec .noticeResendTimerExpiry s =
      .next (s.withNotices { s.notices with inFlight := some { g with resend := none } }).wake := by
  simp only [exec, execNoticeResendTimerExpiry, hflight, hresend, s.dueOpt_some ht, if_true]

theorem State.takeNotice_again {g : InFlight} (hflight : s.notices.inFlight = some g) :
    s.takeNotice = { s with
      notices := { s.notices with inFlight := some { g with
        resend := some (s.now + s.tables.active.line.noticeResend.toNat) } }
      link := { s.link with
        tx := .sendingNotice ⟨0x80, 0xE0, g.sequence, g.content.payload⟩, replyRun := 0 } } := by
  simp only [State.takeNotice, State.noticeTaken, hflight]
  rfl

/-! ### The end of an upstream frame (R171) -/

theorem exec_upstreamFrameSent_reply (htx : s.link.tx = .sendingReply) (hrestart : s.link.restartPending ≠ some 1) :
    exec .upstreamFrameSent s = .next (s.withLink s.link.replySent).txNext := by
  have hother : s.sendingRestartReply = false := by simp [State.sendingRestartReply, hrestart]
  simp only [exec, execUpstreamFrameSent, htx, hother, Bool.false_eq_true, if_false]

theorem exec_upstreamFrameSent_notice {g : UpFrame} (htx : s.link.tx = .sendingNotice g) :
    exec .upstreamFrameSent s =
      .next (s.withLink { s.link with tx := .idle, counters := countNoticeSent s.link.counters }).txNext := by
  simp only [exec, execUpstreamFrameSent, htx]

/-- The order of a frame's end: the notice where one is ready and none or four replies come before it. -/
theorem State.noticeFirst_iff : (s.noticeTakable && (s.link.replies.isEmpty || s.link.replyRun == 4)) = true ↔
    (s.link.restartPending = none ∧ (s.link.replies = [] ∨ s.link.replyRun = 4)) ∧ s.notices.ready = true := by
  simp only [State.noticeTakable, Bool.and_eq_true, Bool.or_eq_true, Option.isNone_iff_eq_none, List.isEmpty_iff,
    beq_iff_eq]
  tauto

theorem State.txNext_notice (hfirst : s.link.restartPending = none ∧ (s.link.replies = [] ∨ s.link.replyRun = 4))
    (hready : s.notices.ready = true) : s.txNext = s.takeNotice :=
  if_pos (State.noticeFirst_iff.mpr ⟨hfirst, hready⟩)

theorem State.txNext_reply
    (hnot : ¬ ((s.link.restartPending = none ∧ (s.link.replies = [] ∨ s.link.replyRun = 4)) ∧ s.notices.ready = true))
    (hreplies : s.link.replies ≠ []) : s.txNext = s.takeReply :=
  (if_neg (mt State.noticeFirst_iff.mp hnot)).trans (if_pos (by simpa using hreplies))

theorem State.txNext_nothing
    (hnot : ¬ ((s.link.restartPending = none ∧ (s.link.replies = [] ∨ s.link.replyRun = 4)) ∧ s.notices.ready = true))
    (hreplies : s.link.replies = []) : s.txNext = s.withLink { s.link with replyRun := 0 } :=
  (if_neg (mt State.noticeFirst_iff.mp hnot)).trans (if_neg (by simp [hreplies]))

end

end Sys2Proof.Machine

namespace Sys2Proof
open Machine

/-- Settles O35: the notices before the one an offer joins are passed over, and an offer with none to join is
appended or lost. -/
theorem offersJoinAppendOrAreLost : Obligations.OffersJoinAppendOrAreLost := by
  intro q before after n count offer free up
  have hup : satInc count = up := satInc_byte count
  refine ⟨fun hwaiting hbefore => ?_, fun hwaiting hbefore => ?_, fun hmem => ?_, fun hmem => ?_,
    fun hkind hfree => ⟨fun hroom => ?_, fun hfull => ?_⟩⟩
  · refine NoticeQueue.offer_joined ?_
    rw [hwaiting, ← hup]
    exact joinWaiting_first hbefore (if_pos rfl)
  · refine NoticeQueue.offer_joined ?_
    rw [hwaiting, ← hup]
    exact joinWaiting_first hbefore (if_pos rfl)
  · refine NoticeQueue.offer_joined (joinWaiting_same (fun w hw => ?_) hmem)
    cases w <;> simp_all [Notice.key, Notice.join]
  · refine NoticeQueue.offer_joined (joinWaiting_same (fun w hw => ?_) hmem)
    cases w <;> simp_all [Notice.key, Notice.join]
  · exact NoticeQueue.offer_appended (joinWaiting_free hfree) hroom
  · rw [NoticeQueue.offer_lost (joinWaiting_free hfree) hfull, satInc_byte]

/-- Settles O36: the acknowledgement by the notice in flight, the resend timer by the transmitter. -/
theorem noticeAckAndResendTimer : Obligations.NoticeAckAndResendTimer := by
  constructor
  · intro s tag sequence f c q removed haccepts
    have hstale (hsettled : s.txSettled = true) (hdecided : s.decided = true)
        (h : ∀ g, q.inFlight = some g → g.sequence ≠ sequence) : exec c s = .next (s.answered f .staleAck []) :=
      (exec_noticeAck s tag sequence).trans (State.takeFrame_answers (r := .staleAck) (content := [])
        (handle := fun s1 => .next (s1.takeAck f sequence)) _ haccepts hsettled hdecided
        (congrArg Host.Outcome.next (State.takeAck_stale h)))
    refine ⟨fun hsettled hdecided hnone => hstale hsettled hdecided fun g hg => (by rw [hnone] at hg; cases hg),
      fun g hflight => ⟨fun hsettled hdecided hother => hstale hsettled hdecided fun g' hg' => ?_, fun hsame => ?_,
        fun hsame => ?_⟩⟩
    · rw [hflight] at hg'
      cases hg'
      exact hother
    all_goals
      subst hsame
      have hremoved : s.notices.removed g = removed g := NoticeQueue.removed_eq _ _
      have hclose : exec c s = .next ((s.heard.withNotices (removed g)).answer f .ok []).close := by
        rw [exec_noticeAck, State.takeFrame_accepts _ _ haccepts, ← hremoved]
        exact congrArg (fun t : State => Host.Outcome.next t.close) (State.takeAck_removes hflight)
    · intro hbusy hdecided
      have hwake : ((s.heard.withNotices (removed g)).answer f .ok []).wake =
          (s.heard.withNotices (removed g)).answer f .ok [] := State.wake_sending hbusy
      have hdone : ((s.heard.withNotices (removed g)).answer f .ok []).decided = true :=
        (State.decided_congr rfl rfl rfl rfl rfl).trans hdecided
      rw [hclose, State.close, hwake, State.follow_of_decided hdone, hwake]
      have hanswered : s.answered f .ok [] = s.heard.answer f .ok [] := by
        rw [State.answered, if_neg hbusy, if_neg hbusy]
        rfl
      rw [hanswered]
      rfl
    · have hkept := State.wake_frame ((s.heard.withNotices (removed g)).answer f .ok [])
      have hreplies := ((s.heard.withNotices (removed g)).answer f .ok []).wake_keeps.1
      refine ⟨((s.heard.withNotices (removed g)).answer f .ok []).wake, hclose,
        hreplies.trans (by simp [f, State.answer, State.reply, State.queueReply, replyFrame, Result.code, State.heard]),
        State.wake_notices rfl, ?_⟩
      rw [hkept]
      exact ⟨rfl, rfl, rfl, rfl, rfl, rfl, rfl, rfl, rfl, rfl, rfl, rfl⟩
  · intro s g t hflight hresend ht
    rw [exec_noticeResendTimerExpiry_due hflight hresend ht]
    refine ⟨fun hbusy => ?_, fun htx hreset hrestart hreplies => ?_⟩
    · exact congrArg Host.Outcome.next
        (State.wake_sending (s := s.withNotices { s.notices with inFlight := some { g with resend := none } }) hbusy)
    · have htakable :
          (s.withNotices { s.notices with inFlight := some { g with resend := none } }).noticeTakable = true :=
        Bool.and_eq_true_iff.mpr ⟨rfl, Option.isNone_iff_eq_none.mpr hrestart⟩
      exact congrArg Host.Outcome.next
        ((State.wake_notice (s := s.withNotices { s.notices with inFlight := some { g with resend := none } }) htx hreset
          hreplies htakable).trans (State.takeNotice_again (g := { g with resend := none }) rfl))

/-- Settles O37: both rows end in the choice of a frame's end, whose branches are the four cases. -/
theorem frameEndTakesTheNextFrame : Obligations.FrameEndTakesTheNextFrame := by
  intro s u hu timer noticeFirst sending
  have hexec : exec .upstreamFrameSent s = .next (u.withLink { u.link with tx := .idle }).txNext := by
    rcases hu with ⟨htx, hrestart, rfl⟩ | ⟨⟨g, htx⟩, rfl⟩
    · exact exec_upstreamFrameSent_reply htx hrestart
    · exact exec_upstreamFrameSent_notice htx
  obtain ⟨l, rfl⟩ : ∃ l, u = s.withLink l := by
    rcases hu with ⟨-, -, rfl⟩ | ⟨-, rfl⟩ <;> exact ⟨_, rfl⟩
  rw [hexec]
  refine ⟨?first, fun hfirst g hflight hresend => ?again, fun hnot hreplies => ?reply, fun hnot hreplies => ?nothing⟩
  case first =>
    intro hfirst w rest hflight hwaiting g
    have hready : s.notices.ready = true := by
      rw [NoticeQueue.ready, hflight, hwaiting]
      rfl
    exact congrArg Host.Outcome.next ((State.txNext_notice (s := s.withLink { l with tx := .idle }) hfirst hready).trans
      (State.takeNotice_first (w := w) (rest := rest) hflight hwaiting))
  case again =>
    have hready : s.notices.ready = true := by
      rw [NoticeQueue.ready, hflight]
      exact Option.isNone_iff_eq_none.mpr hresend
    exact congrArg Host.Outcome.next ((State.txNext_notice (s := s.withLink { l with tx := .idle }) hfirst hready).trans
      (State.takeNotice_again hflight))
  case reply =>
    exact congrArg Host.Outcome.next
      (State.txNext_reply (s := s.withLink { l with tx := .idle }) hnot hreplies)
  case nothing =>
    exact congrArg Host.Outcome.next
      (State.txNext_nothing (s := s.withLink { l with tx := .idle }) hnot hreplies)

end Sys2Proof
end

section
/-! PROOFS. Requests that make an entry of the request queue, and the abort of the transfer. -/

namespace Sys2Proof.Machine

section
variable {s : State} {f : UpFrame} {n : Nat} {d : DemandFields}

/-! ### Requests without a reply yet -/

/-- An owner that takes a request without an answer: what its change makes due follows, and nothing is sent. -/
theorem State.takeFrame_takes {u : State} {handle : State → Out} (mnemonic : String) (haccepts : s.accepts f = true)
    (hsettled : s.txSettled = true) (hhandle : handle s.heard = .next u) (hlink : u.link = s.heard.link)
    (hnotices : u.notices = s.notices) (hreset : u.resetAsserted = s.resetAsserted) :
    s.takeFrame mnemonic f handle = .next u.follow := by
  have hwake : u.wake = u := by
    refine State.wake_settled ?_
    rw [← hsettled]
    unfold State.txSettled State.noticeTakable
    rw [hlink, hnotices, hreset]
    rfl
  rw [State.takeFrame_accepts mnemonic handle haccepts, hhandle]
  exact congrArg (fun t : State => Host.Outcome.next t.follow) hwake

theorem demandOf_of_some {c : Command} {payload : List Byte} (h : c.demandFields payload = some d) :
    demandOf c payload = d := by rw [demandOf, h, Option.getD_some]

/-! ### The freshness decision (R71, R72) -/

theorem State.readInput_disabled (h : s.health f.addr.toNat = .disabled) :
    s.readInput f = s.answer f .nodeDisabled [] := if_pos h

section
variable (hfields : Command.readInput.demandFields f.payload = some d)
include hfields

theorem State.readInput_any (h : s.health f.addr.toNat ≠ .disabled) (hage : d.maxAge = none) :
    s.readInput f = s.answer f .ok (s.reading f.addr.toNat) := by
  simp only [State.readInput, demandOf_of_some hfields, hage, if_neg h]

theorem State.readInput_offline {limit : Half} (hage : d.maxAge = some limit)
    (h : s.health f.addr.toNat = .offline) :
    s.readInput f = s.answer f .staleUnavailable (s.reading f.addr.toNat) := by
  have hother : s.health f.addr.toNat ≠ .disabled := by rw [h]; decide
  simp only [State.readInput, demandOf_of_some hfields, hage, if_neg hother, if_pos h]

theorem State.readInput_fresh {limit : Half} (hage : d.maxAge = some limit) (h : s.health f.addr.toNat ≠ .disabled)
    (honline : s.health f.addr.toNat ≠ .offline) (hvalid : (s.image f.addr.toNat).valid = true)
    (hfresh : (s.image f.addr.toNat).age.toNat ≤ limit.toNat) :
    s.readInput f = s.answer f .ok (s.reading f.addr.toNat) := by
  simp only [State.readInput, demandOf_of_some hfields, hage, if_neg h, if_neg honline]
  exact if_pos ⟨hvalid, hfresh⟩

theorem State.readInput_stale {limit : Half} (hage : d.maxAge = some limit) (h : s.health f.addr.toNat ≠ .disabled)
    (honline : s.health f.addr.toNat ≠ .offline)
    (hstale : (s.image f.addr.toNat).valid = false ∨ limit.toNat < (s.image f.addr.toNat).age.toNat) :
    s.readInput f = if 8 ≤ s.outstanding.length then s.answer f .busy []
      else s.takeRefresh f.addr.toNat d.urgent (s.tagSlot f.tag d.deadline) := by
  have hnot : ¬ ((s.image f.addr.toNat).valid = true ∧ (s.image f.addr.toNat).age.toNat ≤ limit.toNat) := by
    rintro ⟨hvalid, hfresh⟩
    rcases hstale with hinvalid | hold
    · rw [hvalid] at hinvalid
      cases hinvalid
    · omega
  simp only [State.readInput, demandOf_of_some hfields, hage, if_neg h, if_neg honline]
  exact if_neg hnot

end

/-! ### A refresh in the queue (R87) -/

section
variable {urgent : Bool} {t : TagSlot}

theorem State.takeRefresh_urgent (h : s.queue.urgent.any (Entry.joinable n) = true) :
    s.takeRefresh n urgent t = s.withQueue { s.queue with urgent := joinIn n t s.queue.urgent } := if_pos h

theorem State.takeRefresh_normal {e : Entry} (h : s.queue.urgent.any (Entry.joinable n) = false)
    (hfind : s.queue.normal.find? (Entry.joinable n) = some e) :
    s.takeRefresh n urgent t =
      if urgent then s.withQueue ⟨s.queue.urgent ++ [e.addTag t], s.queue.normal.filter fun x => !x.joinable n⟩
      else s.withQueue { s.queue with normal := joinIn n t s.queue.normal } := by
  simp only [State.takeRefresh, h, hfind, Bool.false_eq_true, if_false]

theorem State.enqueue_eq {e : Entry} : s.enqueue (classOf urgent) e = s.withQueue
    (if urgent then { s.queue with urgent := s.queue.urgent ++ [e] }
      else { s.queue with normal := s.queue.normal ++ [e] }) := by
  cases urgent <;> rfl

theorem State.takeRefresh_new (h : s.queue.urgent.any (Entry.joinable n) = false)
    (hnormal : s.queue.normal.any (Entry.joinable n) = false) :
    s.takeRefresh n urgent t = s.withQueue
      (if urgent then { s.queue with urgent := s.queue.urgent ++ [newEntry .refresh n t] }
        else { s.queue with normal := s.queue.normal ++ [newEntry .refresh n t] }) := by
  have hfind : s.queue.normal.find? (Entry.joinable n) = none := by
    rw [List.find?_eq_none]
    intro x hx hjoin
    rw [List.any_eq_false] at hnormal
    exact hnormal x hx hjoin
  simp only [State.takeRefresh, h, hfind, Bool.false_eq_true, if_false, State.enqueue_eq]

end

/-! ### Requests that make an entry of their own (R84 to R86) -/

theorem State.takeDemand_refused {kind : EntryKind} {r : Result} (h : s.demandRefusal kind f.addr.toNat d = some r) :
    s.takeDemand f kind d = s.answer f r [] := by simp only [State.takeDemand, h]

theorem State.takeDemand_taken {kind : EntryKind} (h : s.demandRefusal kind f.addr.toNat d = none) :
    s.takeDemand f kind d =
      s.enqueue (classOf d.urgent) (newEntry kind f.addr.toNat (s.tagSlot f.tag d.deadline)) := by
  simp only [State.takeDemand, h]

theorem State.demandRefusal_disabled {kind : EntryKind} (h : s.health n = .disabled) :
    s.demandRefusal kind n d = some .nodeDisabled := if_pos h

theorem State.demandRefusal_offline {kind : EntryKind} (hkind : kind ≠ .probe) (h : s.health n = .offline) :
    s.demandRefusal kind n d = some .nodeOffline := by
  simp [State.demandRefusal, h, hkind]

theorem State.demandRefusal_ofProbe (h : s.health n ≠ .disabled) :
    s.demandRefusal .probe n d = if 8 ≤ s.outstanding.length then some .busy else none := by
  simp [State.demandRefusal, h, EntryKind.isPass, maxTags]
  rfl

theorem State.demandRefusal_ofPass {bytes : List Byte} (h : s.health n ≠ .disabled) (honline : s.health n ≠ .offline) :
    s.demandRefusal (.pass bytes) n d =
      if s.sched.safe then some .safeState
      else if s.bulkActiveFor n then some .bulkBusy
      else if 8 ≤ s.outstanding.length then some .busy else none := by
  simp [State.demandRefusal, h, honline, EntryKind.isPass, maxTags]
  rfl

theorem State.demandRefusal_ofExchange (h : s.health n ≠ .disabled) (honline : s.health n ≠ .offline) :
    s.demandRefusal .exchange n d =
      if d.hasData = true ∧ (s.cfg n).outputLen = 0 then some .badValue
      else if d.hasData = true ∧ d.rest.length ≠ (s.cfg n).outputLen.toNat then some .badLength
      else if 8 ≤ s.outstanding.length then some .busy else none := by
  simp [State.demandRefusal, h, honline, EntryKind.isPass, maxTags]
  rfl

theorem exec_exchange (s : State) {addr tag : Byte} {payload : List Byte}
    (hfields : Command.exchange.demandFields payload = some d) :
    exec (.exchange addr tag payload) s = s.takeFrame "EXCHANGE" ⟨addr, 0x12, tag, payload⟩ fun s1 =>
      .next (if d.hasData && (s1.demandRefusal .exchange addr.toNat d).isNone then
          (s1.takeDemand ⟨addr, 0x12, tag, payload⟩ .exchange d).writeOutput addr.toNat d.rest
        else s1.takeDemand ⟨addr, 0x12, tag, payload⟩ .exchange d) := by
  obtain rfl := demandOf_of_some hfields
  simp only [apply_ite Host.Outcome.next]
  rfl

theorem exec_pass (s : State) {addr tag : Byte} {payload : List Byte}
    (hfields : Command.pass.demandFields payload = some d) :
    exec (.pass addr tag payload) s = s.takeFrame "PASS" ⟨addr, 0x13, tag, payload⟩ fun s1 =>
      .next (s1.takeDemand ⟨addr, 0x13, tag, payload⟩ (.pass d.rest) d) := by
  obtain rfl := demandOf_of_some hfields
  rfl

theorem exec_probe (s : State) {addr tag : Byte} {payload : List Byte}
    (hfields : Command.probe.demandFields payload = some d) :
    exec (.probe addr tag payload) s = s.takeFrame "PROBE" ⟨addr, 0x14, tag, payload⟩ fun s1 =>
      .next (s1.takeDemand ⟨addr, 0x14, tag, payload⟩ .probe d) := by
  obtain rfl := demandOf_of_some hfields
  rfl

theorem exec_exchange_refused {addr tag : Byte} {payload : List Byte} {r : Result}
    (haccepts : s.accepts ⟨addr, 0x12, tag, payload⟩ = true) (hsettled : s.txSettled = true)
    (hdecided : s.decided = true) (hfields : Command.exchange.demandFields payload = some d)
    (h : s.demandRefusal .exchange addr.toNat d = some r) :
    exec (.exchange addr tag payload) s = .next (s.answered ⟨addr, 0x12, tag, payload⟩ r []) := by
  have hheard : s.heard.demandRefusal .exchange addr.toNat d = some r := h
  rw [exec_exchange s hfields]
  refine State.takeFrame_answers _ haccepts hsettled hdecided ?_
  simp only [hheard, Option.isNone_some, Bool.and_false, Bool.false_eq_true, if_false]
  exact congrArg Host.Outcome.next (State.takeDemand_refused hheard)

theorem exec_exchange_taken {addr tag : Byte} {payload : List Byte}
    (haccepts : s.accepts ⟨addr, 0x12, tag, payload⟩ = true) (hsettled : s.txSettled = true)
    (hfields : Command.exchange.demandFields payload = some d)
    (h : s.demandRefusal .exchange addr.toNat d = none) :
    exec (.exchange addr tag payload) s =
      let entered := s.heard.enqueue (classOf d.urgent) (newEntry .exchange addr.toNat (s.tagSlot tag d.deadline))
      .next (if d.hasData then entered.writeOutput addr.toNat d.rest else entered).follow := by
  have hheard : s.heard.demandRefusal .exchange addr.toNat d = none := h
  rw [exec_exchange s hfields]
  refine State.takeFrame_takes _ haccepts hsettled ?_ ?_ ?_ ?_
  · simp only [hheard, Option.isNone_none, Bool.and_true]
    rw [State.takeDemand_taken (s := s.heard) (f := ⟨addr, 0x12, tag, payload⟩) hheard]
    rfl
  all_goals split <;> rfl

/-! ### The abort (R114) -/

theorem exec_bulkAbort (s : State) (tag : Byte) :
    exec (.bulkAbort tag []) s = s.takeFrame "BULK_ABORT" ⟨0, 0x55, tag, []⟩
      fun s1 => .next (s1.takeAbort ⟨0, 0x55, tag, []⟩) := rfl

theorem State.takeAbort_idle (h : s.bulk.state = .empty ∨ ∃ o, s.bulk.state = .ended o) :
    s.takeAbort f = s.answer f .wrongState [] := by
  rcases h with h | ⟨o, h⟩ <;> simp only [State.takeAbort, h]

theorem State.takeAbort_filling (h : s.bulk.state = .filling) :
    s.takeAbort f = (s.withBulk { s.bulk with state := .ended .aborted }).answer f .ok [] := by
  simp only [State.takeAbort, h]

theorem State.takeAbort_active (h : s.bulk.state.active = true) :
    s.takeAbort f =
      (s.endTransfer { s.bulk with segPhase := s.bulk.segPhase.aborted, cancel := s.abortCancel } .aborted).answer
        f .ok [] := by
  cases hstate : s.bulk.state with
  | running | waiting | suspended => simp only [State.takeAbort, hstate]
  | empty | filling | ended =>
    rw [hstate] at h
    cases h

theorem Bulk.reached_iff (b : Bulk) :
    b.reached = true ↔ 1 ≤ b.acked ∨ b.segPhase = .onLine ∨ b.segPhase = .retryPending := by
  simp [Bulk.reached, or_assoc]

end

end Sys2Proof.Machine

namespace Sys2Proof
open Machine

/-- Settles O24: the first row of the freshness decision that holds, and the queue's three cases of a refresh. -/
theorem readInputDecidesFreshness : Obligations.ReadInputDecidesFreshness := by
  intro s addr tag payload d f n c joinable slot join haccepts hsettled hdecided hfields
  have hanswer {r : Result} {content : List Byte} (h : s.heard.readInput f = s.heard.answer f r content) :
      exec c s = .next (s.answered f r content) :=
    State.takeFrame_answers (handle := fun s1 => .next (s1.readInput f)) _ haccepts hsettled hdecided
      (congrArg Host.Outcome.next h)
  have htake {q : ReqQueue} (h : s.heard.readInput f = s.heard.withQueue q) :
      exec c s = .next ({ s.heard with queue := q } : State).follow :=
    State.takeFrame_takes (handle := fun s1 => .next (s1.readInput f)) _ haccepts hsettled
      (congrArg Host.Outcome.next h) rfl rfl rfl
  refine ⟨fun hoff => hanswer (State.readInput_disabled hoff),
    fun hon hage => hanswer (State.readInput_any hfields hon hage),
    fun limit hage hoff => hanswer (State.readInput_offline hfields hage hoff),
    fun limit hage hon honline hvalid hfresh => hanswer (State.readInput_fresh hfields hage hon honline hvalid hfresh),
    fun limit hage hon honline hold => ?_⟩
  have hstale := State.readInput_stale (s := s.heard) (f := f) hfields hage hon honline hold
  refine ⟨fun hfull => hanswer (hstale.trans (if_pos hfull)), fun hroom hurgent => ?_, fun hroom hurgent e hfind => ?_,
    fun hroom hurgent hnormal => ?_⟩
  all_goals have hrefresh := hstale.trans (if_neg (Nat.not_le.mpr hroom))
  · exact htake (hrefresh.trans (State.takeRefresh_urgent hurgent))
  · have hjoin := hrefresh.trans (State.takeRefresh_normal hurgent hfind)
    exact ⟨fun hclass => htake (hjoin.trans (by rw [hclass]; rfl)),
      fun hclass => htake (hjoin.trans (by rw [hclass]; rfl))⟩
  · exact htake (hrefresh.trans (State.takeRefresh_new hurgent hnormal))

/-- Settles O26: the checks of R84 in order, then the entry and the output data. -/
theorem exchangeMakesAnEntry : Obligations.ExchangeMakesAnEntry := by
  intro s addr tag payload d f n c outLen fits new haccepts hsettled hdecided hfields
  have hrefuse {r : Result} (h : s.demandRefusal .exchange n d = some r) : exec c s = .next (s.answered f r []) :=
    exec_exchange_refused haccepts hsettled hdecided hfields h
  refine ⟨fun hoff => hrefuse (State.demandRefusal_disabled hoff),
    fun hoff => hrefuse (State.demandRefusal_offline nofun hoff), fun hon honline => ?_⟩
  have hchecks := State.demandRefusal_ofExchange (d := d) hon honline
  have hpass (hfits : fits) : s.demandRefusal .exchange n d = if 8 ≤ s.outstanding.length then some .busy else none := by
    rw [hchecks, if_neg fun ⟨hdata, hzero⟩ => (hfits hdata).1 hzero,
      if_neg fun ⟨hdata, hlength⟩ => hlength (hfits hdata).2]
  refine ⟨fun hdata hzero => hrefuse (hchecks.trans (if_pos ⟨hdata, hzero⟩)), fun hdata hpositive hlength =>
    hrefuse (hchecks.trans ((if_neg fun h => hpositive h.2).trans (if_pos ⟨hdata, hlength⟩))),
    fun hfits hfull => hrefuse ((hpass hfits).trans (if_pos hfull)), fun hfits hroom => ?_⟩
  rw [exec_exchange_taken haccepts hsettled hfields ((hpass hfits).trans (if_neg (Nat.not_le.mpr hroom)))]
  simp only [State.enqueue_eq]
  cases d.hasData <;> rfl

/-- Settles O27: the checks of R84 in order, then the entry. -/
theorem passAndProbeMakeEntries : Obligations.PassAndProbeMakeEntries := by
  intro s addr tag payload d f g n slot locked enqueued hsettled hdecided
  refine ⟨?pass, ?probe⟩
  case pass =>
    intro haccepts hfields c
    have hrefuse {r : Result} (h : s.demandRefusal (.pass d.rest) n d = some r) :
        exec c s = .next (s.answered f r []) :=
      (exec_pass s hfields).trans (State.takeFrame_answers (handle := fun s1 => .next (s1.takeDemand f (.pass d.rest) d))
        _ haccepts hsettled hdecided (congrArg Host.Outcome.next (State.takeDemand_refused (s := s.heard) h)))
    have hlocked : s.bulkActiveFor n = true ↔ locked := by
      simp [State.bulkActiveFor, locked, and_comm]
    refine ⟨fun hoff => hrefuse (State.demandRefusal_disabled hoff),
      fun hoff => hrefuse (State.demandRefusal_offline nofun hoff), fun hon honline => ?_⟩
    have hchecks := State.demandRefusal_ofPass (bytes := d.rest) (d := d) hon honline
    have hlast (hsafe : s.sched.safe = false) (hlock : ¬ locked) : s.demandRefusal (.pass d.rest) n d =
        if 8 ≤ s.outstanding.length then some .busy else none := by
      rw [hchecks, if_neg (by rw [hsafe]; nofun), if_neg (mt hlocked.mp hlock)]
    refine ⟨fun hsafe => hrefuse (hchecks.trans (if_pos hsafe)), fun hsafe hlock =>
      hrefuse (hchecks.trans ((if_neg (by rw [hsafe]; nofun)).trans (if_pos (hlocked.mpr hlock)))),
      fun hsafe hlock hfull => hrefuse ((hlast hsafe hlock).trans (if_pos hfull)), fun hsafe hlock hroom => ?_⟩
    have hnone := (hlast hsafe hlock).trans (if_neg (Nat.not_le.mpr hroom))
    exact (exec_pass s hfields).trans (State.takeFrame_takes (handle := fun s1 => .next (s1.takeDemand f (.pass d.rest) d))
      _ haccepts hsettled
      (congrArg Host.Outcome.next ((State.takeDemand_taken (s := s.heard) (f := f) hnone).trans State.enqueue_eq))
      rfl rfl rfl)
  case probe =>
    intro haccepts hfields c
    have hrefuse {r : Result} (h : s.demandRefusal .probe n d = some r) : exec c s = .next (s.answered g r []) :=
      (exec_probe s hfields).trans (State.takeFrame_answers (handle := fun s1 => .next (s1.takeDemand g .probe d))
        _ haccepts hsettled hdecided (congrArg Host.Outcome.next (State.takeDemand_refused (s := s.heard) h)))
    refine ⟨fun hoff => hrefuse (State.demandRefusal_disabled hoff), fun hon hfull =>
      hrefuse ((State.demandRefusal_ofProbe hon).trans (if_pos hfull)), fun hon hroom => ?_⟩
    have hnone : s.demandRefusal .probe n d = none :=
      (State.demandRefusal_ofProbe hon).trans (if_neg (Nat.not_le.mpr hroom))
    exact (exec_probe s hfields).trans (State.takeFrame_takes (handle := fun s1 => .next (s1.takeDemand g .probe d))
      _ haccepts hsettled
      (congrArg Host.Outcome.next ((State.takeDemand_taken (s := s.heard) (f := g) hnone).trans State.enqueue_eq))
      rfl rfl rfl)

/-- Settles O33: the abort by the transfer's state, and the cancel it leaves by what has reached the node. -/
theorem bulkAbortEndsTheTransfer : Obligations.BulkAbortEndsTheTransfer := by
  intro s tag n f c reached haccepts
  refine ⟨fun hsettled hdecided hstate => ?_, fun hsettled hdecided hstate => ?_, fun hactive hnode => ?_⟩
  · exact (exec_bulkAbort s tag).trans (State.takeFrame_answers (handle := fun s1 => .next (s1.takeAbort f)) _ haccepts
      hsettled hdecided (congrArg Host.Outcome.next (State.takeAbort_idle hstate)))
  · exact (exec_bulkAbort s tag).trans (State.takeFrame_answers_withBulk_decided
      (handle := fun s1 => .next (s1.takeAbort f)) _ haccepts hsettled
      (State.withBulk_decided hdecided rfl (State.segmentWant_of_not_running nofun))
      (congrArg Host.Outcome.next (State.takeAbort_filling hstate)))
  · have hreached : s.bulk.reached = true ↔ reached := s.bulk.reached_iff
    have hclose : exec c s = .next (s.heard.takeAbort f).close :=
      (exec_bulkAbort s tag).trans (State.takeFrame_accepts _ (fun s1 => .next (s1.takeAbort f)) haccepts)
    rw [State.takeAbort_active (s := s.heard) hactive] at hclose
    have htarget : s.bulk.node.getD 0 = n := by rw [hnode, Option.getD_some]
    refine ⟨_, hclose, ?_, fun hyes honline => ?_, fun hno => ?_, ?_, ?_, rfl, rfl, rfl, rfl, rfl, rfl, rfl, rfl, rfl, rfl,
      rfl⟩
    · rfl
    · have htold : (s.bulk.reached && s.health (s.bulk.node.getD 0) != .offline) = true := by
        simp [hreached.mpr hyes, honline, htarget]
      exact (if_pos htold).trans (congrArg (fun m => some (m, s.bulk.nextIndex)) htarget)
    · refine if_neg fun h => ?_
      obtain ⟨hyes, honline⟩ := (Bool.and_eq_true _ _).mp h
      rcases hno with hno | hoffline
      · exact hno (hreached.mp hyes)
      · exact bne_iff_ne.mp honline (by rw [← hoffline]; exact congrArg s.health htarget)
    · exact congrArg (fun r => s.link.replies ++ [r]) (by simp [f, replyFrame, Result.code])
    · exact congrArg (fun m => s.notices.offer (.bulkEnd m .aborted s.bulk.acked)) htarget

end Sys2Proof
end

section
/-! PROOFS. What an outcome does to the node table, the image store, the queues at an entry to OFFLINE, and its owner. -/

namespace Sys2Proof.Machine

section
variable {s : State} {n : Nat} {x : LineOutcome}

/-! ### A node's record (R43 to R49) -/

namespace NodeRt
variable {r : NodeRt} {cfg : NodeConfig}

theorem take_failure (h : x.isFailure = true) :
    r.take cfg x = { (r.counted true).afterFailure cfg with attention := x.attention r.attention } := by
  rw [take, h]
  rfl

theorem take_reply (h : x.isFailure = false) :
    r.take cfg x = { (r.counted false).afterReply with attention := x.attention r.attention } := by
  rw [take, h]
  rfl

theorem raisedFail_eq (r : NodeRt) (threshold : Nat) :
    r.raisedFail threshold = if r.failCount = threshold then threshold else r.failCount + 1 := by
  unfold raisedFail
  split
  · assumption
  · rfl

theorem afterFailure_health {fail threshold : Nat} {h : Health} (hon : h ≠ .disabled) :
    h.afterFailure fail threshold = if h = .offline then .offline else if threshold ≤ fail then .offline
      else if h = .online then .suspect else h := by
  cases h with
  | disabled => exact absurd rfl hon
  | offline => rfl
  | probing | online | suspect =>
    by_cases hfail : fail < threshold
    · simp [Health.afterFailure, hfail, Nat.not_le.mpr hfail]
    · simp [Health.afterFailure, hfail, Nat.not_lt.mp hfail]

/-- An outcome is an entry to OFFLINE exactly where it is a failure that raises fail_count to the threshold. -/
theorem enters_iff : r.enters cfg x = true ↔ x.isFailure = true ∧ r.health ≠ .offline ∧ r.health ≠ .disabled ∧
    cfg.offlineThreshold.toNat ≤
      (if r.failCount = cfg.offlineThreshold.toNat then cfg.offlineThreshold.toNat else r.failCount + 1) := by
  rw [← raisedFail_eq, enters, Bool.and_eq_true, bne_iff_ne, beq_iff_eq]
  cases hx : x.isFailure with
  | false =>
    rw [take_reply hx]
    cases hhealth : r.health <;> simp [counted, afterReply, Health.afterReply, hhealth]
  | true =>
    rw [take_failure hx]
    have htaken : ((r.counted true).afterFailure cfg).health =
        r.health.afterFailure (r.raisedFail cfg.offlineThreshold.toNat) cfg.offlineThreshold.toNat := rfl
    simp only [htaken, true_and]
    cases hhealth : r.health <;> simp [Health.afterFailure]

theorem take_attempts : (r.take cfg x).attempts = satInc r.attempts := by
  cases hx : x.isFailure with
  | false => rw [take_reply hx]; rfl
  | true => rw [take_failure hx]; rfl

theorem take_failures : (r.take cfg x).failures = if x.isFailure then satInc r.failures else r.failures := by
  cases hx : x.isFailure with
  | false => rw [take_reply hx]; rfl
  | true => rw [take_failure hx]; rfl

theorem take_disabled (h : r.health = .disabled) : (r.take cfg x).health = .disabled := by
  cases hx : x.isFailure with
  | false =>
    rw [take_reply hx]
    change r.health.afterReply = _
    rw [h]
    rfl
  | true =>
    rw [take_failure hx]
    change r.health.afterFailure _ _ = _
    rw [h]
    rfl

theorem take_valid (h : r.health ≠ .disabled) (hx : x.isFailure = false) :
    (r.take cfg x).health = .online ∧ (r.take cfg x).failCount = 0 := by
  rw [take_reply hx]
  refine ⟨?_, rfl⟩
  change r.health.afterReply = _
  cases hhealth : r.health with
  | disabled => exact absurd hhealth h
  | probing | online | suspect | offline => rfl

theorem take_failed (h : r.health ≠ .disabled) (hx : x.isFailure = true) :
    (r.take cfg x).failCount =
        (if r.failCount = cfg.offlineThreshold.toNat then cfg.offlineThreshold.toNat else r.failCount + 1) ∧
      (r.take cfg x).health = (if r.health = .offline then .offline
        else if cfg.offlineThreshold.toNat ≤ (if r.failCount = cfg.offlineThreshold.toNat then
          cfg.offlineThreshold.toNat else r.failCount + 1) then .offline
        else if r.health = .online then .suspect else r.health) := by
  rw [take_failure hx, ← raisedFail_eq]
  exact ⟨if_neg h, afterFailure_health h⟩

theorem take_countdown : (r.take cfg x).countdown =
    if (r.take cfg x).health = .offline ∧ r.health ≠ .offline then cfg.probeInterval
    else if r.health = .offline ∧ x.isFailure = false then 0 else r.countdown := by
  cases hx : x.isFailure with
  | false =>
    have hnot : ¬ (r.health.afterReply = .offline ∧ r.health ≠ .offline) := by
      cases r.health <;> simp [Health.afterReply]
    rw [take_reply hx]
    simp only [and_true]
    exact (if_neg hnot).symm
  | true =>
    rw [take_failure hx]
    simp only [Bool.true_eq_false, and_false, if_false]
    rfl

theorem take_attention : (r.take cfg x).attention = match x with
    | .replied (.data status _) => status.getLsbD 7
    | .replied (.statusReply status _) => status.getLsbD 7
    | .replied (.passReply status _) => status.getLsbD 7
    | _ => r.attention := by
  cases x with
  | replied c => cases c <;> rfl
  | nodeError code | failure k | sent => rfl

theorem healthNotice_iff : r.healthNotice cfg x = true ↔
    r.enters cfg x = true ∨ (x.isFailure = false ∧ (r.health = .probing ∨ r.health = .offline)) := by
  cases hx : x.isFailure with
  | false =>
    have hstays : r.enters cfg x = false := by
      rw [Bool.eq_false_iff, Ne, enters_iff, hx]
      simp
    rw [healthNotice, hx, hstays]
    cases r.health <;> simp [Health.replyNotifies]
  | true => simp [healthNotice, hx]

theorem attentionNotice_eq : r.attentionNotice x = match x with
    | .replied (.data status _) => status.getLsbD 7 && !r.attention
    | .replied (.statusReply status _) => status.getLsbD 7 && !r.attention
    | .replied (.passReply status _) => status.getLsbD 7 && !r.attention
    | _ => false := by
  rw [attentionNotice, Bool.and_comm]
  cases x with
  | replied c =>
    cases c with
    | data | statusReply | passReply => rfl
    | segAck | segNakBusy | segNakReject => exact Bool.and_not_self _
  | nodeError code | failure k | sent => exact Bool.and_not_self _

theorem attentionNotice_failure (h : x.isFailure = true) : r.attentionNotice x = false := by
  cases x with
  | failure k => simp [attentionNotice, LineOutcome.attention, LineOutcome.statusByte]
  | replied c | nodeError code | sent => cases h

end NodeRt

/-! ### The entry to OFFLINE in the queues (R91, R95, R116) -/

/-- An entry that the entry of node n to OFFLINE completes (R95). -/
def Entry.goneOffline (n : Nat) (e : Entry) : Bool := e.node == n && e.phase != .onLine && e.kind != .probe

theorem State.offlineVerdict_eq (s : State) (n : Nat) (e : Entry) : s.offlineVerdict n e =
    if e.goneOffline n then
      some (if e.kind = .refresh then (.refreshFailed, s.reading e.node) else (.nodeOffline, []))
    else none := by
  unfold State.offlineVerdict Entry.goneOffline
  by_cases h : e.node = n ∧ e.phase ≠ .onLine
  · obtain ⟨hnode, hphase⟩ := h
    cases hkind : e.kind <;> simp [hnode, hphase]
  · rw [if_neg h, if_neg]
    rintro hgone
    simp only [Bool.and_eq_true, beq_iff_eq, bne_iff_ne] at hgone
    exact h hgone.1

/-- The replies of the entries that the entry of node n to OFFLINE completes. -/
def State.offlineAnswers (s : State) (n : Nat) : List UpFrame :=
  (s.queue.entries.filter (Entry.goneOffline n)).flatMap fun e => e.tags.map fun tg =>
    ⟨natByte e.node ||| 0x80, e.kind.command.code ||| 0x80, tg.tag,
      if e.kind = .refresh then 0x35 :: s.reading e.node else [0x21]⟩

/-- The transfer record after the entry of node n to OFFLINE (R116). -/
def State.bulkAtOffline (s : State) (n : Nat) : Bulk :=
  if s.bulkActiveFor n then { s.bulk with
    state := .ended (.failed .nodeOffline)
    segPhase := if s.bulk.segPhase = .retryPending then .none else s.bulk.segPhase }
  else s.bulk

/-- The notice queue after the transfer's part in the entry of node n to OFFLINE (R117). -/
def State.bulkEndTold (s : State) (n : Nat) (q : NoticeQueue) : NoticeQueue :=
  if s.bulkActiveFor n then q.offer (.bulkEnd n (.failed .nodeOffline) s.bulk.acked) else q

theorem State.bulkActiveFor_iff : s.bulkActiveFor n = true ↔ s.bulk.node = some n ∧ s.bulk.state.active = true := by
  rw [State.bulkActiveFor, Bool.and_eq_true, decide_eq_true_eq]
  exact and_comm

theorem State.bulkOffline_eq (s : State) (n : Nat) :
    s.bulkOffline n = { s with bulk := s.bulkAtOffline n, notices := s.bulkEndTold n s.notices } := by
  unfold State.bulkOffline State.bulkAtOffline State.bulkEndTold
  by_cases h : s.bulkActiveFor n = true
  · have hnode := (State.bulkActiveFor_iff.mp h).1
    simp only [h, if_true, State.endTransfer, Bulk.endNotice, SegPhase.dropRetry_eq, hnode]
    rfl
  · simp only [h]
    rfl

theorem State.complete_offline (s : State) (n : Nat) : s.complete (s.offlineVerdict n) = { s with
    queue := ⟨s.queue.urgent.filter fun e => !e.goneOffline n, s.queue.normal.filter fun e => !e.goneOffline n⟩
    link := { s.link with replies := s.link.replies ++ s.offlineAnswers n } } := by
  have hnone (e : Entry) : (s.offlineVerdict n e).isNone = !e.goneOffline n := by
    rw [State.offlineVerdict_eq]
    cases e.goneOffline n <;> rfl
  have hreplies (e : Entry) : repliesFor (s.offlineVerdict n) e = if e.goneOffline n then e.tags.map fun tg =>
      ⟨natByte e.node ||| 0x80, e.kind.command.code ||| 0x80, tg.tag,
        if e.kind = .refresh then 0x35 :: s.reading e.node else [0x21]⟩ else [] := by
    rw [repliesFor, State.offlineVerdict_eq]
    cases e.goneOffline n with
    | false => rfl
    | true =>
      by_cases hkind : e.kind = .refresh
      · simp only [hkind, if_true]
        rw [Entry.replies_eq, hkind]
        rfl
      · simp only [hkind, if_true, if_false]
        exact Entry.replies_eq ..
  have hanswers : s.queue.entries.flatMap (repliesFor (s.offlineVerdict n)) = s.offlineAnswers n :=
    (congrArg (s.queue.entries.flatMap ·) (funext hreplies)).trans (flatMap_ite_eq_filter _ _ _)
  have hlink := congrArg (fun l => ({ s.link with replies := s.link.replies ++ l } : LinkPort)) hanswers
  have hqueue : (s.complete (s.offlineVerdict n)).queue =
      ⟨s.queue.urgent.filter fun e => !e.goneOffline n, s.queue.normal.filter fun e => !e.goneOffline n⟩ := by
    simp only [← hnone]
    rfl
  rw [← hlink, ← hqueue]
  rfl

/-! ### The node table takes an outcome (R43 to R49) -/

/-- The node table's notices of an outcome (R48). -/
def State.nodeTold (s : State) (n : Nat) (x : LineOutcome) (q : NoticeQueue) : NoticeQueue :=
  let q1 := if (s.node n).healthNotice (s.cfg n) x then q.offer (.health n 0) else q
  if (s.node n).attentionNotice x then q1.offer (.attention n) else q1

/-- The node table after an outcome for node n. -/
def State.nodesAfter (s : State) (n : Nat) (x : LineOutcome) : Vector NodeRt 30 :=
  bankSet s.nodes n ((s.node n).take (s.cfg n) x)

theorem State.nodeTakes_stays (h : (s.node n).enters (s.cfg n) x = false) :
    s.nodeTakes n x = { s with nodes := s.nodesAfter n x, notices := s.nodeTold n x s.notices } := by
  unfold State.nodeTakes State.nodeTold State.offerIf
  simp only [h, Bool.false_eq_true, if_false]
  cases (s.node n).healthNotice (s.cfg n) x <;> cases (s.node n).attentionNotice x <;> rfl

theorem State.nodeTakes_enters (h : (s.node n).enters (s.cfg n) x = true) :
    s.nodeTakes n x = { s with
      nodes := s.nodesAfter n x
      notices := s.bulkEndTold n (s.notices.offer (.health n 0))
      queue := ⟨s.queue.urgent.filter fun e => !e.goneOffline n, s.queue.normal.filter fun e => !e.goneOffline n⟩
      link := { s.link with
        replies := s.link.replies ++ (s.withNodes (s.nodesAfter n x)).offlineAnswers n }
      bulk := s.bulkAtOffline n } := by
  have hfailure := (NodeRt.enters_iff.mp h).1
  have hhealth : (s.node n).healthNotice (s.cfg n) x = true := NodeRt.healthNotice_iff.mpr (.inl h)
  unfold State.nodeTakes State.offerIf State.handOffline
  simp only [h, hhealth, NodeRt.attentionNotice_failure hfailure, if_true, Bool.false_eq_true, if_false,
    State.complete_offline, State.bulkOffline_eq]
  rfl

/-! ### The image store takes a DATA reply (R64, R68, R69) -/

/-- The image store after an outcome for node n: only a DATA reply changes it. -/
def State.imagesAfter (s : State) (n : Nat) : LineOutcome → Vector Image 30
  | .replied (.data status block) => bankSet s.images n ((s.image n).update status block)
  | _ => s.images

/-- The image store's notice of a DATA reply (R68, R69). -/
def State.imageTold (s : State) (n : Nat) (status : Byte) (block : List Byte) (q : NoticeQueue) : NoticeQueue :=
  if (s.image n).isChange (s.cfg n).notify status block then q.offer (.change n 0) else q

theorem State.imageTakes_eq (s : State) (n : Nat) (status : Byte) (block : List Byte) :
    s.imageTakes n status block = { s with
      images := bankSet s.images n ((s.image n).update status block)
      notices := s.imageTold n status block s.notices } := by
  unfold State.imageTakes State.imageTold State.offerIf
  simp only []
  cases (s.image n).isChange (s.cfg n).notify status block <;> rfl

/-- A DATA reply in the two blocks, in either order (log entry 11). -/
theorem State.blocksTake_data (s : State) (n : Nat) (status : Byte) (block : List Byte) : ∃ q,
    s.blocksTake n (.replied (.data status block)) = { s with
      nodes := s.nodesAfter n (.replied (.data status block))
      images := s.imagesAfter n (.replied (.data status block))
      notices := q
      choices := s.choices + 1 } ∧
    (q = s.nodeTold n (.replied (.data status block)) (s.imageTold n status block s.notices) ∨
      q = s.imageTold n status block (s.nodeTold n (.replied (.data status block)) s.notices)) := by
  have hstays : (s.node n).enters (s.cfg n) (.replied (.data status block)) = false := by
    rw [Bool.eq_false_iff, Ne, NodeRt.enters_iff]
    exact fun h => Bool.noConfusion h.1
  unfold State.blocksTake
  simp only []
  split
  · refine ⟨_, ?_, .inl rfl⟩
    rw [State.imageTakes_eq, State.nodeTakes_stays (s := { s.countChoice with images := _, notices := _ }) hstays]
    rfl
  · refine ⟨_, ?_, .inr rfl⟩
    rw [State.nodeTakes_stays (s := s.countChoice) hstays, State.imageTakes_eq]
    rfl

theorem State.blocksTake_other (h : ∀ status block, x ≠ .replied (.data status block)) :
    s.blocksTake n x = s.nodeTakes n x := by
  unfold State.blocksTake
  split
  · exact absurd rfl (h _ _)
  · rfl

theorem State.imagesAfter_other (h : ∀ status block, x ≠ .replied (.data status block)) :
    s.imagesAfter n x = s.images := by
  unfold State.imagesAfter
  split
  · exact absurd rfl (h _ _)
  · rfl

/-- What an outcome does to the blocks outside an entry to OFFLINE. -/
theorem State.blocksTake_stays (h : (s.node n).enters (s.cfg n) x = false) :
    s.blocksTake n x = { s with
      nodes := s.nodesAfter n x
      images := s.imagesAfter n x
      notices := (s.blocksTake n x).notices
      choices := (s.blocksTake n x).choices } := by
  by_cases hdata : ∃ status block, x = .replied (.data status block)
  · obtain ⟨status, block, rfl⟩ := hdata
    obtain ⟨q, hq, -⟩ := s.blocksTake_data n status block
    rw [hq]
  · have hother : ∀ status block, x ≠ .replied (.data status block) :=
      fun status block hx => hdata ⟨status, block, hx⟩
    rw [State.blocksTake_other hother, State.imagesAfter_other hother, State.nodeTakes_stays h]

theorem State.blocksTake_enters (h : (s.node n).enters (s.cfg n) x = true) : s.blocksTake n x = s.nodeTakes n x := by
  refine State.blocksTake_other fun status block hx => ?_
  rw [hx] at h
  exact Bool.noConfusion (NodeRt.enters_iff.mp h).1

/-- What the node table and the image store leave alone in any outcome. -/
theorem State.blocksTake_frame (s : State) (n : Nat) (x : LineOutcome) :
    s.blocksTake n x = { s with
      nodes := s.nodesAfter n x
      images := s.imagesAfter n x
      notices := (s.blocksTake n x).notices
      choices := (s.blocksTake n x).choices
      queue := (s.blocksTake n x).queue
      link := (s.blocksTake n x).link
      bulk := (s.blocksTake n x).bulk } := by
  cases h : (s.node n).enters (s.cfg n) x with
  | false => rw [State.blocksTake_stays h]
  | true =>
    have hother : ∀ status block, x ≠ .replied (.data status block) := fun status block hx => by
      rw [hx] at h
      exact Bool.noConfusion (NodeRt.enters_iff.mp h).1
    rw [State.blocksTake_enters h, State.imagesAfter_other hother, State.nodeTakes_enters h]

end

/-! ### Owners -/

section
variable {s : State} {o : Order} {x : LineOutcome} {out entered : Bool}

theorem State.demandTakes_frame (s : State) (cls : QueueClass) (out : Bool) (x : LineOutcome) (entered : Bool) :
    s.demandTakes cls out x entered =
      { s with queue := (s.demandTakes cls out x entered).queue, link := (s.demandTakes cls out x entered).link } := by
  unfold State.demandTakes
  split
  · rfl
  · split
    · split
      · exact State.completeHead_frame ..
      · rw [State.setHead_frame]
        rfl
    · exact State.completeHead_frame ..

theorem State.segmentTakes_frame (s : State) (x : LineOutcome) (index : Nat) (last entered : Bool) :
    s.segmentTakes x index last entered =
      { s with bulk := (s.segmentTakes x index last entered).bulk
               notices := (s.segmentTakes x index last entered).notices } := by
  unfold State.segmentTakes State.endTransfer
  split <;> simp only []
  · split <;> rfl
  · split <;> rfl
  · rfl
  · rfl
  · split <;> rfl

theorem State.bulkTakes_frame (s : State) (req : Request) (x : LineOutcome) (entered : Bool) :
    s.bulkTakes req x entered =
      { s with bulk := (s.bulkTakes req x entered).bulk, notices := (s.bulkTakes req x entered).notices } := by
  unfold State.bulkTakes
  split
  · rfl
  · split
    · split
      · exact State.segmentTakes_frame ..
      · rfl
    · rfl

/-- The line controller back in IDLE with the outcome counted (R36, R37). -/
def State.returned (s : State) (x : LineOutcome) : State :=
  s.withLine { s.line with phase := .idle, counters := x.count s.line.counters }

theorem State.deliver_eq (s : State) (o : Order) (out : Bool) (x : LineOutcome) :
    s.deliver o out x = ((s.returned x).blocksTake o.addr x).ownerTakes o out x
      ((s.node o.addr).enters (s.cfg o.addr) x) := rfl

end

end Sys2Proof.Machine
end

section
/-! PROOFS. The delivery of an outcome: what it leaves alone, its notices, and the schedule as its owner. -/

namespace Sys2Proof.Machine

/-! ### The walk offers at most one overrun (R16) -/

section
variable {s t : State}

theorem State.Move.notices {goes : Bool} (h : s.Move t goes) :
    (t.notices = s.notices ∧ t.sched.cycleStart = s.sched.cycleStart) ∨
      ((t.notices = s.notices ∨ (t.notices = s.notices.offer .cycleOverrun ∧ s.sched.cycleStart ≠ none)) ∧
        t.sched.cycleStart = none) := by
  cases h with
  | boundary =>
    refine .inr ⟨?_, by rw [State.cycleBoundary_sched]; rfl⟩
    unfold State.cycleBoundary
    by_cases hover : s.overran = true
    · refine .inr ⟨by simp only [hover, if_true]; rfl, fun hnone => ?_⟩
      rw [State.overran_eq, hnone] at hover
      cases hover
    · exact .inl (by simp only [hover]; rfl)
  | probe | swept | slotSkipped | slot | main | mainSkipped => exact .inl ⟨rfl, rfl⟩

/-- Without a cycle start no move offers an overrun. -/
theorem walkMoves_notices_unstarted (k : Nat) (hnone : s.sched.cycleStart = none) :
    (walkMoves k s).notices = s.notices := by
  induction k generalizing s with
  | zero => rfl
  | succ k ih =>
    have hmove : s.walkMove.1.notices = s.notices ∧ s.walkMove.1.sched.cycleStart = none := by
      rcases s.walkMove_move.notices with ⟨hsame, hstart⟩ | ⟨hsame | ⟨-, hstarted⟩, hstart⟩
      · exact ⟨hsame, hstart.trans hnone⟩
      · exact ⟨hsame, hstart⟩
      · exact absurd hnone hstarted
    rw [walkMoves]
    split
    · exact (ih hmove.2).trans hmove.1
    · exact hmove.1

theorem walkMoves_notices (k : Nat) (s : State) :
    (walkMoves k s).notices = s.notices ∨ (walkMoves k s).notices = s.notices.offer .cycleOverrun := by
  induction k generalizing s with
  | zero => exact .inl rfl
  | succ k ih =>
    rw [walkMoves]
    split
    · rcases s.walkMove_move.notices with ⟨hsame, -⟩ | ⟨hmove, hstart⟩
      · rw [← hsame]
        exact ih _
      · rw [walkMoves_notices_unstarted k hstart]
        exact hmove.imp_right And.left
    · rcases s.walkMove_move.notices with ⟨hsame, -⟩ | ⟨hmove, -⟩
      · exact .inl hsame
      · exact hmove.imp_right And.left

theorem State.walk_notices (s : State) :
    s.walk.notices = s.notices ∨ s.walk.notices = s.notices.offer .cycleOverrun := by
  unfold State.walk
  split
  · exact walkMoves_notices _ s
  · exact .inl rfl

end

section
variable {s : State} {o : Order} {x : LineOutcome} {out entered : Bool}

/-! ### The schedule as owner -/

theorem State.scheduleTakes_detached {st : SchedStep} {n : Nat} (h : s.sched.detached = some st) :
    s.scheduleTakes n x entered = s.withSched { s.sched with detached := none } := by
  simp only [State.scheduleTakes, h]

theorem State.scheduleTakes_attached {a : Attached} {n : Nat} (hdetached : s.sched.detached = none)
    (h : s.sched.attached = some a) :
    s.scheduleTakes n x entered = if x.isFailure && s.wantsRetry n a.attempts entered then
        s.withSched { s.sched with attached := some { a with retryPending := true } }
      else s.stepFinal a.step := by
  simp only [State.scheduleTakes, hdetached, h]

/-- The schedule's part in an outcome: its own record, and the walk after a final step. -/
theorem State.scheduleTakes_cases (s : State) (n : Nat) (x : LineOutcome) (entered : Bool) :
    ∃ d, s.scheduleTakes n x entered = s.withSched d ∨ s.scheduleTakes n x entered = (s.withSched d).walk := by
  unfold State.scheduleTakes
  split
  · exact ⟨_, .inl rfl⟩
  · exact ⟨s.sched, .inl rfl⟩
  · split
    · exact ⟨_, .inl rfl⟩
    · exact ⟨_, .inr rfl⟩

theorem State.scheduleTakes_frame (s : State) (n : Nat) (x : LineOutcome) (entered : Bool) :
    s.scheduleTakes n x entered = { s with
      sched := (s.scheduleTakes n x entered).sched
      nodes := (s.scheduleTakes n x entered).nodes
      notices := (s.scheduleTakes n x entered).notices } := by
  obtain ⟨d, h | h⟩ := s.scheduleTakes_cases n x entered
  · rw [h]
    rfl
  · rw [h]
    exact (State.walk_frame _)

theorem State.scheduleTakes_node (s : State) (n : Nat) (x : LineOutcome) (entered : Bool) (m : Nat) :
    { (s.scheduleTakes n x entered).node m with countdown := (s.node m).countdown } = s.node m := by
  obtain ⟨d, h | h⟩ := s.scheduleTakes_cases n x entered
  · rw [h]
    rfl
  · rw [h]
    exact (State.walk_keeps (s.withSched d)).node m

theorem State.scheduleTakes_notices (s : State) (n : Nat) (x : LineOutcome) (entered : Bool) :
    (s.scheduleTakes n x entered).notices = s.notices ∨
      (s.scheduleTakes n x entered).notices = s.notices.offer .cycleOverrun := by
  obtain ⟨d, h | h⟩ := s.scheduleTakes_cases n x entered
  · exact .inl (by rw [h]; rfl)
  · rw [h]
    exact (s.withSched d).walk_notices

/-! ### What an owner leaves alone -/

theorem State.ownerTakes_frame (s : State) (o : Order) (out : Bool) (x : LineOutcome) (entered : Bool) :
    let t := s.ownerTakes o out x entered
    t = { s with
      sched := t.sched, nodes := t.nodes, notices := t.notices, queue := t.queue, link := t.link, bulk := t.bulk } := by
  intro t
  simp only [t, State.ownerTakes]
  cases o.owner with
  | schedule =>
    simp only []
    rw [State.scheduleTakes_frame]
  | demand cls =>
    simp only []
    rw [State.demandTakes_frame]
  | bulk =>
    simp only []
    rw [State.bulkTakes_frame]
  | none => rfl

theorem State.ownerTakes_sched (h : o.owner ≠ .schedule) :
    (s.ownerTakes o out x entered).sched = s.sched ∧ (s.ownerTakes o out x entered).nodes = s.nodes := by
  unfold State.ownerTakes
  cases howner : o.owner with
  | schedule => exact absurd howner h
  | demand cls =>
    simp only []
    rw [State.demandTakes_frame]
    exact ⟨rfl, rfl⟩
  | bulk =>
    simp only []
    rw [State.bulkTakes_frame]
    exact ⟨rfl, rfl⟩
  | none => exact ⟨rfl, rfl⟩

theorem State.ownerTakes_queue (h : o.owner = .schedule ∨ o.owner = .bulk ∨ o.owner = .none) :
    (s.ownerTakes o out x entered).queue = s.queue ∧ (s.ownerTakes o out x entered).link = s.link := by
  unfold State.ownerTakes
  rcases h with h | h | h
  · simp only [h]
    rw [State.scheduleTakes_frame]
    exact ⟨rfl, rfl⟩
  · simp only [h]
    rw [State.bulkTakes_frame]
    exact ⟨rfl, rfl⟩
  · simp only [h, and_self]

theorem State.ownerTakes_bulk (h : o.owner ≠ .bulk) : (s.ownerTakes o out x entered).bulk = s.bulk := by
  unfold State.ownerTakes
  cases howner : o.owner with
  | schedule =>
    simp only []
    rw [State.scheduleTakes_frame]
  | demand cls =>
    simp only []
    rw [State.demandTakes_frame]
  | bulk => exact absurd howner h
  | none => rfl

theorem State.ownerTakes_notices (hschedule : o.owner ≠ .schedule) (hbulk : o.owner ≠ .bulk) :
    (s.ownerTakes o out x entered).notices = s.notices := by
  unfold State.ownerTakes
  cases howner : o.owner with
  | schedule => exact absurd howner hschedule
  | demand cls =>
    simp only []
    rw [State.demandTakes_frame]
  | bulk => exact absurd howner hbulk
  | none => rfl

theorem State.ownerTakes_node (s : State) (o : Order) (out : Bool) (x : LineOutcome) (entered : Bool) (m : Nat) :
    { (s.ownerTakes o out x entered).node m with countdown := (s.node m).countdown } = s.node m := by
  by_cases h : o.owner = .schedule
  · unfold State.ownerTakes
    simp only [h]
    exact s.scheduleTakes_node o.addr x entered m
  · rw [State.node, (State.ownerTakes_sched h).2]
    rfl

/-! ### The delivery (R26, R36) -/

theorem State.deliver_frame (s : State) (o : Order) (out : Bool) (x : LineOutcome) :
    let t := s.deliver o out x
    t = { s.returned x with
      images := s.imagesAfter o.addr x, sched := t.sched, nodes := t.nodes, notices := t.notices, queue := t.queue
      link := t.link, bulk := t.bulk, choices := t.choices } := by
  intro t
  simp only [t]
  rw [State.deliver_eq, State.ownerTakes_frame, State.blocksTake_frame]
  rfl

theorem State.deliver_others (h : o.owner ≠ .schedule) :
    (s.deliver o out x).sched = s.sched ∧ (s.deliver o out x).nodes = s.nodesAfter o.addr x := by
  obtain ⟨hsched, hnodes⟩ := State.ownerTakes_sched (s := (s.returned x).blocksTake o.addr x) (o := o) (out := out)
    (x := x) (entered := (s.node o.addr).enters (s.cfg o.addr) x) h
  rw [State.deliver_eq, hsched, hnodes, State.blocksTake_frame]
  exact ⟨rfl, rfl⟩

theorem State.deliver_node (s : State) (o : Order) (out : Bool) (x : LineOutcome) (m : Nat) :
    ∃ c, (s.deliver o out x).node m =
      { bankGet (s.nodesAfter o.addr x) NodeRt.reset m with countdown := c } := by
  refine ⟨((s.deliver o out x).node m).countdown, ?_⟩
  have hblocks : ((s.returned x).blocksTake o.addr x).node m = bankGet (s.nodesAfter o.addr x) NodeRt.reset m := by
    rw [State.node, State.blocksTake_frame]
    rfl
  rw [← hblocks, ← State.ownerTakes_node ((s.returned x).blocksTake o.addr x) o out x
    ((s.node o.addr).enters (s.cfg o.addr) x) m]
  rfl

theorem State.deliver_node_addressed (h1 : 1 ≤ o.addr) (h30 : o.addr ≤ 30) : ∃ c,
    (s.deliver o out x).node o.addr = { (s.node o.addr).take (s.cfg o.addr) x with countdown := c } := by
  obtain ⟨c, h⟩ := s.deliver_node o out x o.addr
  rw [State.nodesAfter, bankGet_bankSet_same _ _ _ h1 h30] at h
  exact ⟨c, h⟩

theorem State.deliver_node_other {m : Nat} (h : m ≠ o.addr) :
    ∃ c, (s.deliver o out x).node m = { s.node m with countdown := c } := by
  obtain ⟨c, hm⟩ := s.deliver_node o out x m
  rw [State.nodesAfter, bankGet_bankSet_other _ _ _ h.symm] at hm
  exact ⟨c, hm⟩

theorem State.deliver_health_addressed (h1 : 1 ≤ o.addr) (h30 : o.addr ≤ 30) :
    (s.deliver o out x).health o.addr = ((s.node o.addr).take (s.cfg o.addr) x).health := by
  obtain ⟨c, h⟩ := State.deliver_node_addressed (s := s) (out := out) (x := x) h1 h30
  rw [State.health, h]

/-- No node outside the bank enters OFFLINE. -/
theorem State.inRange_of_enters {n : Nat} (h : (s.node n).enters (s.cfg n) x = true) : 1 ≤ n ∧ n ≤ 30 := by
  obtain ⟨-, -, hdisabled, -⟩ := NodeRt.enters_iff.mp h
  by_contra hout
  refine hdisabled ?_
  have hreset : s.node n = NodeRt.reset := by
    unfold State.node
    cases n with
    | zero => rfl
    | succ k => exact congrArg (Option.getD · NodeRt.reset) (Vector.getElem?_eq_none (by omega))
  rw [hreset]
  rfl

theorem State.deliver_enters_iff (h1 : 1 ≤ o.addr) (h30 : o.addr ≤ 30) :
    (s.node o.addr).enters (s.cfg o.addr) x = true ↔
      s.health o.addr ≠ .offline ∧ (s.deliver o out x).health o.addr = .offline := by
  rw [State.deliver_health_addressed h1 h30, NodeRt.enters, Bool.and_eq_true, bne_iff_ne, beq_iff_eq]
  rfl

theorem State.not_enters_of (h : ¬ (s.health o.addr ≠ .offline ∧ (s.deliver o out x).health o.addr = .offline)) :
    (s.node o.addr).enters (s.cfg o.addr) x = false := by
  rw [Bool.eq_false_iff]
  intro henters
  obtain ⟨h1, h30⟩ := State.inRange_of_enters henters
  exact h ((State.deliver_enters_iff h1 h30).mp henters)

theorem State.deliver_queue (howner : o.owner = .schedule ∨ o.owner = .bulk ∨ o.owner = .none) :
    (s.deliver o out x).queue = ((s.returned x).blocksTake o.addr x).queue ∧
      (s.deliver o out x).link = ((s.returned x).blocksTake o.addr x).link := State.ownerTakes_queue howner

theorem State.deliver_bulk (howner : o.owner ≠ .bulk) :
    (s.deliver o out x).bulk = ((s.returned x).blocksTake o.addr x).bulk := State.ownerTakes_bulk howner

theorem State.blocksTake_returned_stays (h : (s.node o.addr).enters (s.cfg o.addr) x = false) :
    ((s.returned x).blocksTake o.addr x).queue = s.queue ∧ ((s.returned x).blocksTake o.addr x).link = s.link ∧
      ((s.returned x).blocksTake o.addr x).bulk = s.bulk := by
  rw [State.blocksTake_stays (s := s.returned x) h]
  exact ⟨rfl, rfl, rfl⟩

theorem State.deliver_schedule (howner : o.owner = .schedule) :
    s.deliver o out x = ((s.returned x).blocksTake o.addr x).scheduleTakes o.addr x
      ((s.node o.addr).enters (s.cfg o.addr) x) := by
  rw [State.deliver_eq]
  simp only [State.ownerTakes, howner]

theorem State.deliver_demand {cls : QueueClass} (howner : o.owner = .demand cls) :
    s.deliver o out x = ((s.returned x).blocksTake o.addr x).demandTakes cls out x
      ((s.node o.addr).enters (s.cfg o.addr) x) := by
  rw [State.deliver_eq]
  simp only [State.ownerTakes, howner]

theorem State.deliver_bulkOwner (howner : o.owner = .bulk) :
    s.deliver o out x = ((s.returned x).blocksTake o.addr x).bulkTakes o.request x
      ((s.node o.addr).enters (s.cfg o.addr) x) := by
  rw [State.deliver_eq]
  simp only [State.ownerTakes, howner]

/-! ### The events that end an attempt (R32 to R36) -/

theorem exec_replyFrameReceived_last {byte : Byte} {got : List Byte} {timer : Option Nat}
    (hreset : s.resetAsserted = false) (hphase : s.line.phase = .receiving o out got timer)
    (hlast : replyLastByte got = true) :
    exec (.replyFrameReceived byte) s =
      .next (s.charArrived.deliver o out (judgeReply (s.cfg o.addr) o (got ++ [byte]))).close := by
  simp only [exec, execReplyFrameReceived, hreset, hphase, hlast, Bool.false_eq_true, if_false, if_true, done]

theorem exec_replyTimerExpiry_due {e : Nat} (hphase : s.line.phase = .awaiting o out e) (hdue : e ≤ s.now) :
    exec .replyTimerExpiry s = .next (s.deliver o out (.failure .timeout)).close := by
  have hexpired : s.due e = true := decide_eq_true hdue
  simp only [exec, execReplyTimerExpiry, hphase, hexpired, if_true, done]

theorem exec_downstreamInterByteExpiry_due {e : Nat} {got : List Byte}
    (hphase : s.line.phase = .receiving o out got (some e) ∨ s.line.phase = .draining o out (some e))
    (hdue : e ≤ s.now) :
    exec .downstreamInterByteExpiry s = .next (s.deliver o out (.failure .malformed)).close := by
  rcases hphase with hphase | hphase <;>
    simp only [exec, execDownstreamInterByteExpiry, hphase, s.dueOpt_some hdue, if_true, done]

/-! ### The notices of an outcome (R48, R68, R69) -/

theorem State.nodeTold_enters {n : Nat} (h : (s.node n).enters (s.cfg n) x = true) (q : NoticeQueue) :
    s.nodeTold n x q = q.offer (.health n 0) := by
  have hfailure := (NodeRt.enters_iff.mp h).1
  simp only [State.nodeTold, NodeRt.healthNotice_iff.mpr (.inl h), NodeRt.attentionNotice_failure hfailure, if_true,
    Bool.false_eq_true, if_false]

/-- Where no transfer ends, the node table's notices are HEALTH and ATTENTION alone. -/
theorem State.nodeTakes_notices {n : Nat}
    (h : ¬ ((s.node n).enters (s.cfg n) x = true ∧ s.bulkActiveFor n = true)) :
    (s.nodeTakes n x).notices = s.nodeTold n x s.notices := by
  cases henters : (s.node n).enters (s.cfg n) x with
  | false => rw [State.nodeTakes_stays henters]
  | true =>
    rw [State.nodeTakes_enters henters, State.nodeTold_enters henters]
    exact if_neg fun hactive => h ⟨henters, hactive⟩

theorem State.bulkTakes_notices {req : Request} (h : s.bulk.cancelOnLine = true ∨ s.bulk.segPhase ≠ .onLine) :
    (s.bulkTakes req x entered).notices = s.notices := by
  unfold State.bulkTakes
  split
  · rfl
  · rename_i hcancel
    have hphase := h.resolve_left hcancel
    rw [if_neg (by simp [Bulk.takesOutcome, hphase])]
    rfl

theorem Image.isChange_iff {i : Image} {notify : Notify} {status : Byte} {block : List Byte} :
    i.isChange notify status block = true ↔
      (notify = .anyChange ∧ (i.valid = false ∨ block ≠ i.data ∨ status ≠ i.status)) ∨
        (notify = .statusOnly ∧ (i.valid = false ∨ status ≠ i.status)) := by
  cases notify <;> simp [Image.isChange, or_assoc]

/-! ### The scheduler's record and the blocks' part in an outcome -/

theorem State.nodeTakes_withSched (s : State) (d : Sched) (n : Nat) (x : LineOutcome) :
    (s.withSched d).nodeTakes n x = (s.nodeTakes n x).withSched d := by
  cases h : (s.node n).enters (s.cfg n) x with
  | false =>
    rw [State.nodeTakes_stays h, State.nodeTakes_stays (s := s.withSched d) h]
    rfl
  | true =>
    rw [State.nodeTakes_enters h, State.nodeTakes_enters (s := s.withSched d) h]
    rfl

theorem State.imageTakes_withSched (s : State) (d : Sched) (n : Nat) (status : Byte) (block : List Byte) :
    (s.withSched d).imageTakes n status block = (s.imageTakes n status block).withSched d := by
  rw [State.imageTakes_eq, State.imageTakes_eq]
  rfl

theorem State.blocksTake_withSched (s : State) (d : Sched) (n : Nat) (x : LineOutcome) :
    (s.withSched d).blocksTake n x = (s.blocksTake n x).withSched d := by
  have hchoice : (s.withSched d).countChoice = s.countChoice.withSched d := rfl
  unfold State.blocksTake
  split
  · simp only [hchoice, State.withSched_choices, State.imageTakes_withSched, State.nodeTakes_withSched]
    split <;> rfl
  · exact State.nodeTakes_withSched ..

end

end Sys2Proof.Machine
end

section
/-! PROOFS. The end of an attempt, its notices, and the schedule's position after it. -/

namespace Sys2Proof
open Machine

/-- Settles O43: each event delivers the outcome, and each block's part is read off the delivery. -/
theorem attemptsEndInAnOutcome : Obligations.AttemptsEndInAnOutcome := by
  intro s c o output got timer byte e x arrived hevent ended t
  have hexec : exec c s = .next t.close := by
    rcases hevent with ⟨hreset, hphase, hlast, rfl, rfl, rfl⟩ | ⟨hphase, hdue, rfl, rfl, rfl⟩ |
      ⟨hphase, hdue, rfl, rfl, rfl⟩
    · exact exec_replyFrameReceived_last hreset hphase hlast
    · exact exec_replyTimerExpiry_due hphase hdue
    · exact exec_downstreamInterByteExpiry_due hphase hdue
  obtain ⟨l, hl, hended⟩ : ∃ l : LineCtl, { l with phase := .idle, counters := x.count l.counters } =
      ({ s.line with
        phase := .idle
        charIn := if arrived then false else s.line.charIn
        charForeign := if arrived then false else s.line.charForeign
        quietSince := if arrived then s.now else s.line.quietSince
        counters := x.count s.line.counters } : LineCtl) ∧ ended = s.withLine l := by
    cases arrived
    · exact ⟨s.line, rfl, rfl⟩
    · exact ⟨_, rfl, rfl⟩
  have ht : t = (s.withLine l).deliver o output x := congrArg (State.deliver · o output x) hended
  clear_value t ended
  have hframe := (s.withLine l).deliver_frame o output x
  simp only [← ht] at hframe
  have hline : t.line = { l with phase := .idle, counters := x.count l.counters } := by
    rw [hframe]
    rfl
  refine ⟨hexec, ?line, ?addressed, fun howner n hn => ?_, fun n hn => ?_,
    fun status block hx => ?_, fun hother => ?_, fun howner => ?_, fun hstays => ⟨fun howner => ?_, fun howner => ?_⟩,
    by rw [hframe]; rfl, by rw [hframe]; rfl, by rw [hframe]; rfl, by rw [hframe]; rfl, by rw [hframe]; rfl,
    by rw [hframe]; rfl⟩
  case line =>
    refine hline.trans (hl.trans ?_)
    cases x with
    | failure k => cases k <;> rfl
    | replied | nodeError | sent => rfl
  case addressed =>
    intro h1 h30 r r' threshold fail
    obtain ⟨k, hr⟩ := State.deliver_node_addressed (s := s.withLine l) (out := output) (x := x) h1 h30
    rw [← ht] at hr
    have hr' : r' = { r.take (s.cfg o.addr) x with countdown := k } := hr
    rw [hr']
    refine ⟨NodeRt.take_attempts, NodeRt.take_failures, NodeRt.take_disabled, NodeRt.take_valid, NodeRt.take_failed,
      fun howner => ?_, NodeRt.take_attention (cfg := s.cfg o.addr)⟩
    have hnodes := (State.deliver_others (s := s.withLine l) (out := output) (x := x) howner).2
    rw [← ht] at hnodes
    have hexact : r' = r.take (s.cfg o.addr) x := by
      change bankGet t.nodes NodeRt.reset o.addr = _
      rw [hnodes]
      exact bankGet_bankSet_same _ _ _ h1 h30
    rw [← hr', hexact]
    exact NodeRt.take_countdown
  · have hnodes := (State.deliver_others (s := s.withLine l) (out := output) (x := x) howner).2
    rw [← ht] at hnodes
    change bankGet t.nodes NodeRt.reset n = _
    rw [hnodes]
    exact bankGet_bankSet_other _ _ _ (Ne.symm hn)
  · obtain ⟨k, hm⟩ := State.deliver_node_other (s := s.withLine l) (out := output) (x := x) hn
    rw [← ht] at hm
    rw [hm]
    rfl
  · rw [hframe, hx]
    rfl
  · rw [hframe]
    exact State.imagesAfter_other hother
  · rw [ht]
    exact (State.deliver_others howner).1
  · rw [ht] at hstays ⊢
    have hnot := State.not_enters_of (s := s.withLine l) hstays
    obtain ⟨hqueue, hlink, -⟩ := State.blocksTake_returned_stays hnot
    obtain ⟨hownQueue, hownLink⟩ := State.deliver_queue (s := s.withLine l) (out := output) (x := x) howner
    exact ⟨hownQueue.trans hqueue, hownLink.trans hlink⟩
  · rw [ht] at hstays ⊢
    have hnot := State.not_enters_of (s := s.withLine l) hstays
    obtain ⟨-, -, hbulk⟩ := State.blocksTake_returned_stays hnot
    exact (State.deliver_bulk howner).trans hbulk

/-- Settles O44: the owner offers nothing, so the notices are the node table's and the image store's. -/
theorem outcomesOfferTheirNotices : Obligations.OutcomesOfferTheirNotices := by
  intro s o output x n r i threshold fail enters recovers raised attention told after howner hquiet
  have henters : r.enters (s.cfg n) x = true ↔ enters := NodeRt.enters_iff
  have htold (q : NoticeQueue) : s.nodeTold n x q = told q := by
    have hhealth : r.healthNotice (s.cfg n) x = true ↔ enters ∨ recovers := by
      rw [NodeRt.healthNotice_iff, henters]
    have hattention : r.attentionNotice x = attention := NodeRt.attentionNotice_eq
    simp only [State.nodeTold, told]
    rw [show (s.node n).attentionNotice x = attention from hattention]
    by_cases h : enters ∨ recovers
    · rw [if_pos (hhealth.mpr h), if_pos h]
    · rw [if_neg (mt hhealth.mp h), if_neg h]
  have hnoEnd : ¬ (r.enters (s.cfg n) x = true ∧ s.bulkActiveFor n = true) := fun ⟨hin, hactive⟩ =>
    hquiet ⟨henters.mp hin, (State.bulkActiveFor_iff.mp hactive).2, (State.bulkActiveFor_iff.mp hactive).1⟩
  have hbulk : ((s.returned x).blocksTake n x).bulk = s.bulk := by
    cases hin : r.enters (s.cfg n) x with
    | false => exact (State.blocksTake_returned_stays hin).2.2
    | true =>
      rw [State.blocksTake_enters (s := s.returned x) hin, State.nodeTakes_enters (s := s.returned x) hin]
      exact if_neg fun hactive => hnoEnd ⟨hin, hactive⟩
  have hafter : after = ((s.returned x).blocksTake n x).notices := by
    change (((s.returned x).blocksTake n x).ownerTakes o output x _).notices = _
    rcases howner with hnone | ⟨cls, hdemand⟩ | ⟨howner, hdetached⟩
    · exact State.ownerTakes_notices (by rw [hnone]; nofun) (by rw [hnone]; nofun)
    · exact State.ownerTakes_notices (by rw [hdemand]; nofun) (by rw [hdemand]; nofun)
    · rw [State.ownerTakes, howner]
      exact State.bulkTakes_notices (by rw [hbulk]; exact hdetached)
  rw [hafter]
  refine ⟨fun hother => ?_, fun status block hx => ?_⟩
  · rw [State.blocksTake_other hother, ← htold]
    exact State.nodeTakes_notices (s := s.returned x) hnoEnd
  · subst hx
    intro change
    have hchange : i.isChange (s.cfg n).notify status block = true ↔ change := Image.isChange_iff
    obtain ⟨q, hblocks, hq⟩ := (s.returned (.replied (.data status block))).blocksTake_data n status block
    have hq' : q = s.nodeTold n (.replied (.data status block)) (s.imageTold n status block s.notices) ∨
        q = s.imageTold n status block (s.nodeTold n (.replied (.data status block)) s.notices) := hq
    rw [htold, htold] at hq'
    rw [hblocks]
    have hnone (h : ¬ change) (q1 : NoticeQueue) : s.imageTold n status block q1 = q1 := if_neg (mt hchange.mp h)
    have hsome (h : change) (q1 : NoticeQueue) : s.imageTold n status block q1 = q1.offer (.change n 0) :=
      if_pos (hchange.mpr h)
    refine ⟨fun h => ?_, fun h => ?_⟩
    · rw [hnone h, hnone h, or_self] at hq'
      exact hq'
    · rw [hsome h, hsome h] at hq'
      exact hq'.symm

/-- Settles O45: the blocks do not look at the scheduler's record, so the schedule's part stands apart. -/
theorem scheduleOutcomesMoveThePosition : Obligations.ScheduleOutcomesMoveThePosition := by
  intro s o output x a step d r threshold fail enters wanted others passed after howner
  have hothers (d' : Sched) : others d' = ((s.returned x).blocksTake o.addr x).withSched d' :=
    State.blocksTake_withSched (s.returned x) d' o.addr x
  have hblocksSched : ((s.returned x).blocksTake o.addr x).sched = d := by
    rw [State.blocksTake_frame]
    rfl
  have hblocksTables : ((s.returned x).blocksTake o.addr x).tables = s.tables := by
    rw [State.blocksTake_frame]
    rfl
  have hafter : after = ((s.returned x).blocksTake o.addr x).scheduleTakes o.addr x (r.enters (s.cfg o.addr) x) :=
    State.deliver_schedule howner
  have hwanted : (x.isFailure && ((s.returned x).blocksTake o.addr x).wantsRetry o.addr a.attempts
      (r.enters (s.cfg o.addr) x)) = true ↔ wanted := by
    have henters : r.enters (s.cfg o.addr) x = true ↔ x.isFailure = true ∧ enters := NodeRt.enters_iff
    rw [State.wantsRetry, State.cfg, hblocksTables, Bool.and_eq_true, Bool.and_eq_true, decide_eq_true_eq,
      Bool.not_eq_true', Bool.eq_false_iff, Ne, henters]
    exact and_congr_right fun hfailure => and_congr_right fun _ => not_congr (and_iff_right hfailure)
  refine ⟨fun hdetached => ?_, fun hdetached hattached hwant => ?_, fun hdetached hattached hfinal => ?_, fun d' => ?_⟩
  · rw [hafter, State.scheduleTakes_detached (by rw [hblocksSched]; exact hdetached), hothers, hblocksSched]
  · rw [hafter, State.scheduleTakes_attached (by rw [hblocksSched]; exact hdetached)
      (by rw [hblocksSched]; exact hattached),
      if_pos (hwanted.mpr hwant), hothers, hblocksSched]
  · rw [hafter, State.scheduleTakes_attached (by rw [hblocksSched]; exact hdetached)
      (by rw [hblocksSched]; exact hattached),
      if_neg (mt hwanted.mp hfinal), State.stepFinal, State.passStep]
    refine ⟨fun hkind => ?_, fun hkind => ?_, fun hkind => ?_⟩
    · rw [hkind, hothers, hblocksSched]
    · rw [hkind, hothers, hblocksSched, State.nextPointer, State.ilLen, hblocksTables]
    · rw [hkind, hothers, hblocksSched]
  · rw [hothers]
    rfl

end Sys2Proof
end

section
/-! PROOFS. A demand order's and a segment's outcome, and the entry to OFFLINE. -/

namespace Sys2Proof.Machine

section
variable {s : State} {o : Order} {x : LineOutcome} {out entered : Bool} {cls : QueueClass} {e : Entry} {rest : List Entry}

/-! ### The head of a class (R89, R90) -/

theorem ReqQueue.fifo_setFifo (q : ReqQueue) (c c' : QueueClass) (l : List Entry) :
    (q.setFifo c l).fifo c' = if c' = c then l else q.fifo c' := by
  cases c <;> cases c' <;> rfl

theorem State.completeHead_of_head {r : Result} {content : List Byte} (h : s.queue.fifo cls = e :: rest) :
    s.completeHead cls r content = { s with
      queue := s.queue.setFifo cls rest
      link := { s.link with replies := s.link.replies ++ e.tags.map fun tg =>
        ⟨natByte e.node ||| 0x80, e.kind.command.code ||| 0x80, tg.tag, r.code :: content⟩ } } := by
  simp only [State.completeHead, h, Entry.replies_eq]
  rfl

theorem State.setHead_of_head {e' : Entry} (h : s.queue.fifo cls = e :: rest) :
    s.setHead cls e' = s.withQueue (s.queue.setFifo cls (e' :: rest)) := by
  simp only [State.setHead, h]

theorem State.demandTakes_final (h : s.queue.fifo cls = e :: rest)
    (hfinal : (x.isFailure && s.wantsRetry e.node e.attempts entered) = false) :
    s.demandTakes cls out x entered = { s with
      queue := s.queue.setFifo cls rest
      link := { s.link with replies := s.link.replies ++ e.tags.map fun tg =>
        ⟨natByte e.node ||| 0x80, e.kind.command.code ||| 0x80, tg.tag,
          (s.outcomeResult e out x).1.code :: (s.outcomeResult e out x).2⟩ } } := by
  rw [← State.completeHead_of_head h]
  simp only [State.demandTakes, h, hfinal, Bool.false_eq_true, if_false]

theorem State.demandTakes_retry (h : s.queue.fifo cls = e :: rest)
    (hretry : (x.isFailure && s.wantsRetry e.node e.attempts entered) = true) :
    s.demandTakes cls out x entered =
      if e.kind.isPass && s.sched.safe then s.completeHead cls .safeState []
      else s.setHead cls { e with phase := .retryPending } := by
  simp only [State.demandTakes, h, hretry, if_true]

theorem State.reading_congr {t u : State} {m : Nat} (himages : t.images = u.images) (hhealth : t.health m = u.health m)
    (htables : t.tables = u.tables) : t.reading m = u.reading m := by
  unfold State.reading State.quality State.image State.cfg
  rw [himages, hhealth, htables]

/-! ### A demand order's outcome without an entry to OFFLINE -/

theorem State.wantsRetry_eq (s : State) (n attempts : Nat) (entered : Bool) :
    s.wantsRetry n attempts entered = true ↔ attempts < 1 + (s.cfg n).retryLimit.toNat ∧ entered = false := by
  simp [State.wantsRetry]

theorem State.blocksTake_cfg (s : State) (n m : Nat) (x : LineOutcome) :
    ((s.returned x).blocksTake n x).cfg m = s.cfg m := by
  rw [State.cfg, State.blocksTake_frame]
  rfl

theorem State.blocksTake_safe (s : State) (n : Nat) (x : LineOutcome) :
    ((s.returned x).blocksTake n x).sched = s.sched := by
  rw [State.blocksTake_frame]
  rfl

/-- The entry that takes its own outcome for good: gone, and answered with the result as it stands afterwards. -/
theorem State.deliver_demand_final (howner : o.owner = .demand cls) (h : s.queue.fifo cls = e :: rest)
    (hstays : (s.node o.addr).enters (s.cfg o.addr) x = false)
    (hfinal : ¬ (x.isFailure = true ∧ e.attempts < 1 + (s.cfg e.node).retryLimit.toNat)) :
    (s.deliver o out x).queue = s.queue.setFifo cls rest ∧
    (s.deliver o out x).link = { s.link with replies := s.link.replies ++ e.tags.map fun tg =>
      ⟨natByte e.node ||| 0x80, e.kind.command.code ||| 0x80, tg.tag,
        ((s.deliver o out x).outcomeResult e out x).1.code :: ((s.deliver o out x).outcomeResult e out x).2⟩ } := by
  obtain ⟨hqueue, hlink, -⟩ := State.blocksTake_returned_stays hstays
  have hover : (x.isFailure && ((s.returned x).blocksTake o.addr x).wantsRetry e.node e.attempts
      ((s.node o.addr).enters (s.cfg o.addr) x)) = false := by
    rw [Bool.eq_false_iff, Ne, Bool.and_eq_true, State.wantsRetry_eq, State.blocksTake_cfg]
    exact fun ⟨hfailure, hattempts, _⟩ => hfinal ⟨hfailure, hattempts⟩
  rw [State.deliver_demand howner, State.demandTakes_final (by rw [hqueue]; exact h) hover]
  refine ⟨congrArg (·.setFifo cls rest) hqueue, ?_⟩
  rw [hlink]
  rfl

/-- A failure with a retry wanted. -/
theorem State.deliver_demand_retry (howner : o.owner = .demand cls) (h : s.queue.fifo cls = e :: rest)
    (hstays : (s.node o.addr).enters (s.cfg o.addr) x = false) (hfailure : x.isFailure = true)
    (hattempts : e.attempts < 1 + (s.cfg e.node).retryLimit.toNat) :
    (e.kind.isPass = true → s.sched.safe = true →
      (s.deliver o out x).queue = s.queue.setFifo cls rest ∧
      (s.deliver o out x).link = { s.link with replies := s.link.replies ++ e.tags.map fun tg =>
        ⟨natByte e.node ||| 0x80, e.kind.command.code ||| 0x80, tg.tag, [0x27]⟩ }) ∧
    (e.kind.isPass = false ∨ s.sched.safe = false →
      (s.deliver o out x).queue = s.queue.setFifo cls ({ e with phase := .retryPending } :: rest) ∧
      (s.deliver o out x).link = s.link) := by
  obtain ⟨hqueue, hlink, -⟩ := State.blocksTake_returned_stays hstays
  have hhead : ((s.returned x).blocksTake o.addr x).queue.fifo cls = e :: rest := by rw [hqueue]; exact h
  have hwants : (x.isFailure && ((s.returned x).blocksTake o.addr x).wantsRetry e.node e.attempts
      ((s.node o.addr).enters (s.cfg o.addr) x)) = true := by
    rw [Bool.and_eq_true, State.wantsRetry_eq, State.blocksTake_cfg]
    exact ⟨hfailure, hattempts, hstays⟩
  rw [State.deliver_demand howner, State.demandTakes_retry hhead hwants, State.blocksTake_safe]
  refine ⟨fun hpass hsafe => ?_, fun hnot => ?_⟩
  · rw [if_pos (by rw [hpass, hsafe]; rfl), State.completeHead_of_head hhead]
    exact ⟨congrArg (·.setFifo cls rest) hqueue, by rw [hlink]; rfl⟩
  · have hno : ¬ (e.kind.isPass && s.sched.safe) = true := by
      rcases hnot with hnot | hnot <;> simp [hnot]
    rw [if_neg hno, State.setHead_of_head hhead]
    exact ⟨congrArg (fun q : ReqQueue => q.setFifo cls ({ e with phase := .retryPending } :: rest)) hqueue, hlink⟩

/-! ### An entry to OFFLINE (R49, R91, R95, R116) -/

section
variable (henters : (s.node o.addr).enters (s.cfg o.addr) x = true)
include henters

theorem State.blocksTake_returned_enters : (s.returned x).blocksTake o.addr x = { s.returned x with
    nodes := s.nodesAfter o.addr x
    notices := s.bulkEndTold o.addr (s.notices.offer (.health o.addr 0))
    queue := ⟨s.queue.urgent.filter fun e => !e.goneOffline o.addr, s.queue.normal.filter fun e => !e.goneOffline o.addr⟩
    link := { s.link with
      replies := s.link.replies ++ ((s.returned x).withNodes (s.nodesAfter o.addr x)).offlineAnswers o.addr }
    bulk := s.bulkAtOffline o.addr } :=
  (State.blocksTake_enters (s := s.returned x) henters).trans (State.nodeTakes_enters (s := s.returned x) henters)

/-- The readings in the answers are those after the outcome. -/
theorem State.offlineAnswers_after :
    ((s.returned x).withNodes (s.nodesAfter o.addr x)).offlineAnswers o.addr =
      ((s.deliver o out x).withQueue s.queue).offlineAnswers o.addr := by
  have himages : s.imagesAfter o.addr x = s.images := State.imagesAfter_other fun status block hx => by
    rw [hx] at henters
    exact Bool.noConfusion (NodeRt.enters_iff.mp henters).1
  have hreading (m : Nat) : ((s.returned x).withNodes (s.nodesAfter o.addr x)).reading m =
      ((s.deliver o out x).withQueue s.queue).reading m := by
    obtain ⟨c, hnode⟩ := s.deliver_node o out x m
    refine State.reading_congr ?_ ?_ ?_
    · rw [State.withQueue_images, State.deliver_frame]
      exact himages.symm
    · change _ = ((s.deliver o out x).node m).health
      rw [hnode]
      rfl
    · rw [State.withQueue_tables, State.deliver_frame]
      rfl
  unfold State.offlineAnswers
  simp only [hreading]
  rfl

theorem State.deliver_enters_queue (howner : o.owner = .schedule ∨ o.owner = .bulk ∨ o.owner = .none) :
    (∀ c, (s.deliver o out x).queue.fifo c = (s.queue.fifo c).filter fun e => !e.goneOffline o.addr) ∧
    (s.deliver o out x).link = { s.link with
      replies := s.link.replies ++ ((s.deliver o out x).withQueue s.queue).offlineAnswers o.addr } := by
  obtain ⟨hqueue, hlink⟩ := State.deliver_queue (s := s) (out := out) (x := x) howner
  rw [← State.offlineAnswers_after henters, hqueue, hlink, State.blocksTake_returned_enters henters]
  exact ⟨fun c => by cases c <;> rfl, rfl⟩

/-- The attempt's own entry, on the line, is answered after the others. -/
theorem State.deliver_enters_demand (howner : o.owner = .demand cls) (h : s.queue.fifo cls = e :: rest)
    (honline : e.phase = .onLine) :
    (∀ c, (s.deliver o out x).queue.fifo c =
      (if c = cls then rest else s.queue.fifo c).filter fun y => !y.goneOffline o.addr) ∧
    (s.deliver o out x).link = { s.link with
      replies := s.link.replies ++ ((s.deliver o out x).withQueue s.queue).offlineAnswers o.addr ++
        e.tags.map fun tg => ⟨natByte e.node ||| 0x80, e.kind.command.code ||| 0x80, tg.tag,
          ((s.deliver o out x).outcomeResult e out x).1.code :: ((s.deliver o out x).outcomeResult e out x).2⟩ } := by
  have hblocks := State.blocksTake_returned_enters henters
  have hkept : e.goneOffline o.addr = false := by simp [Entry.goneOffline, honline]
  have hfifo (c : QueueClass) : ((s.returned x).blocksTake o.addr x).queue.fifo c =
      (s.queue.fifo c).filter fun y => !y.goneOffline o.addr := by
    rw [hblocks]
    cases c <;> rfl
  have hhead : ((s.returned x).blocksTake o.addr x).queue.fifo cls =
      e :: rest.filter fun y => !y.goneOffline o.addr := by
    rw [hfifo, h, List.filter_cons_of_pos (by rw [hkept]; rfl)]
  have hover : (x.isFailure && ((s.returned x).blocksTake o.addr x).wantsRetry e.node e.attempts
      ((s.node o.addr).enters (s.cfg o.addr) x)) = false := by
    rw [henters, State.wantsRetry, Bool.not_true, Bool.and_false, Bool.and_false]
  have hdeliver := (State.deliver_demand (out := out) howner).trans (State.demandTakes_final hhead hover)
  refine ⟨fun c => ?_, ?_⟩
  · rw [hdeliver]
    change (((s.returned x).blocksTake o.addr x).queue.setFifo cls _).fifo c = _
    rw [ReqQueue.fifo_setFifo, hfifo, apply_ite (List.filter fun y : Entry => !y.goneOffline o.addr)]
  · rw [← State.offlineAnswers_after henters, hdeliver]
    change LinkPort.mk .. = _
    rw [hblocks]
    rfl

end

/-! ### The bulk unit as owner (R107, R108, R110, R115) -/

theorem State.bulkTakes_cancel {req : Request} (h : s.bulk.cancelOnLine = true) :
    s.bulkTakes req x entered = s.withBulk { s.bulk with cancelOnLine := false } := if_pos h

theorem State.bulkTakes_detached {req : Request} (h : s.bulk.cancelOnLine = false) (hnot : s.bulk.takesOutcome = false) :
    s.bulkTakes req x entered = s.withBulk { s.bulk with segPhase := .none } :=
  (if_neg (by rw [h]; nofun)).trans (if_neg (by rw [hnot]; nofun))

theorem State.bulkTakes_segment {i : Nat} {last cancel : Bool} {data : List Byte} (h : s.bulk.cancelOnLine = false)
    (hphase : s.bulk.segPhase = .onLine) (hstate : s.bulk.state = .running ∨ ∃ c, s.bulk.state = .suspended c) :
    s.bulkTakes (.segment i last cancel data) x entered = s.segmentTakes x i last entered := by
  have htakes : s.bulk.takesOutcome = true := by
    rcases hstate with hstate | ⟨c, hstate⟩ <;> simp [Bulk.takesOutcome, hphase, hstate]
  exact (if_neg (by rw [h]; nofun)).trans (if_pos htakes)

/-- A reply without a status byte, which no DATA reply is: the node table's HEALTH notice is all it offers. -/
theorem State.blocksTake_unstatused (hvalid : x.isFailure = false) (hbyte : x.statusByte = none) :
    ((s.returned x).blocksTake o.addr x).bulk = s.bulk ∧
      ((s.returned x).blocksTake o.addr x).notices =
        (if s.health o.addr = .probing ∨ s.health o.addr = .offline then s.notices.offer (.health o.addr 0)
          else s.notices) := by
  have hstays : (s.node o.addr).enters (s.cfg o.addr) x = false := by
    rw [Bool.eq_false_iff, Ne, NodeRt.enters_iff, hvalid]
    exact fun h => Bool.noConfusion h.1
  have hother : ∀ status block, x ≠ .replied (.data status block) := fun status block hx => by
    rw [hx] at hbyte
    cases hbyte
  have hattention : (s.node o.addr).attentionNotice x = false := by
    rw [NodeRt.attentionNotice, LineOutcome.attention, hbyte]
    exact Bool.not_and_self _
  have hhealth : (s.node o.addr).healthNotice (s.cfg o.addr) x = true ↔
      s.health o.addr = .probing ∨ s.health o.addr = .offline := by
    rw [NodeRt.healthNotice_iff, hstays, hvalid]
    simp [State.health]
  rw [State.blocksTake_other hother, State.nodeTakes_stays (s := s.returned x) hstays]
  refine ⟨rfl, ?_⟩
  change s.nodeTold o.addr x s.notices = _
  simp only [State.nodeTold, hattention, Bool.false_eq_true, if_false, hhealth]

/-- A failure that leaves the node's health short of OFFLINE offers nothing. -/
theorem State.blocksTake_failed {k : FailKind}
    (hstays : (s.node o.addr).enters (s.cfg o.addr) (.failure k) = false) :
    ((s.returned (.failure k)).blocksTake o.addr (.failure k)).bulk = s.bulk ∧
      ((s.returned (.failure k)).blocksTake o.addr (.failure k)).notices = s.notices := by
  have hhealth : (s.node o.addr).healthNotice (s.cfg o.addr) (.failure k) = false := hstays
  rw [State.blocksTake_other (fun _ _ h => by cases h), State.nodeTakes_stays (s := s.returned _) hstays]
  refine ⟨rfl, ?_⟩
  change s.nodeTold o.addr (.failure k) s.notices = _
  simp only [State.nodeTold, NodeRt.attentionNotice_failure (x := .failure k) rfl, hhealth, Bool.false_eq_true, if_false]

theorem State.endTransfer_eq {b : Bulk} {n : Nat} (h : b.node = some n) (r : BulkOutcome) : s.endTransfer b r = { s with
    bulk := { b with state := .ended r }, notices := s.notices.offer (.bulkEnd n r b.acked) } := by
  rw [State.endTransfer, Bulk.endNotice, h]
  rfl

/-! What the bulk unit does with each outcome of a segment of its transfer. -/

section
variable {i n : Nat}

theorem State.segmentTakes_ack_more (s : State) (i : Nat) (entered : Bool) :
    s.segmentTakes (.replied .segAck) i false entered = s.withBulk { s.bulk with
      acked := s.bulk.acked + 1, nextIndex := i + 1, attempts := 0, busy := 0, segPhase := .none } := rfl

theorem State.segmentTakes_ack_last (h : s.bulk.node = some n) :
    s.segmentTakes (.replied .segAck) i true entered = { s with
      bulk := { s.bulk with
        acked := s.bulk.acked + 1, nextIndex := i + 1, attempts := 0, busy := 0, segPhase := .none
        state := .ended .done }
      notices := s.notices.offer (.bulkEnd n .done (s.bulk.acked + 1)) } := State.endTransfer_eq (by exact h) _

theorem State.segmentTakes_busy_more {last : Bool} (h : s.bulk.busy < 7) :
    s.segmentTakes (.replied .segNakBusy) i last entered = s.withBulk { s.bulk with
      busy := s.bulk.busy + 1, segPhase := .none, attempts := 0
      state := if s.bulk.state = .running then .waiting (s.now + s.params.bulkBackoff.toNat) else s.bulk.state } :=
  if_neg (show ¬ 8 ≤ s.bulk.busy + 1 by omega)

theorem State.segmentTakes_busy_last {last : Bool} (hnode : s.bulk.node = some n) (h : 7 ≤ s.bulk.busy) :
    s.segmentTakes (.replied .segNakBusy) i last entered = { s with
      bulk := { s.bulk with busy := s.bulk.busy + 1, segPhase := .none, state := .ended (.failed .nodeBusy) }
      notices := s.notices.offer (.bulkEnd n (.failed .nodeBusy) s.bulk.acked) } :=
  (if_pos (show 8 ≤ s.bulk.busy + 1 by omega)).trans (State.endTransfer_eq (by exact hnode) _)

theorem State.segmentTakes_reject {last : Bool} (hnode : s.bulk.node = some n) :
    s.segmentTakes (.replied .segNakReject) i last entered = { s with
      bulk := { s.bulk with segPhase := .none, state := .ended (.failed .rejected) }
      notices := s.notices.offer (.bulkEnd n (.failed .rejected) s.bulk.acked) } := State.endTransfer_eq (by exact hnode) _

theorem State.segmentTakes_error {last : Bool} {code : Byte} (hnode : s.bulk.node = some n) :
    s.segmentTakes (.nodeError code) i last entered = { s with
      bulk := { s.bulk with segPhase := .none, state := .ended (.failed .nodeError) }
      notices := s.notices.offer (.bulkEnd n (.failed .nodeError) s.bulk.acked) } := State.endTransfer_eq (by exact hnode) _

theorem State.segmentTakes_retry {last : Bool} {k : FailKind} (hnode : s.bulk.node = some n)
    (h : s.bulk.attempts < 1 + (s.cfg n).retryLimit.toNat) :
    s.segmentTakes (.failure k) i last false = s.withBulk { s.bulk with segPhase := .retryPending } :=
  if_pos ((State.wantsRetry_eq _ _ _ _).mpr ⟨by rw [hnode]; exact h, rfl⟩)

theorem State.segmentTakes_failed {last : Bool} {k : FailKind} (hnode : s.bulk.node = some n)
    (h : ¬ s.bulk.attempts < 1 + (s.cfg n).retryLimit.toNat) :
    s.segmentTakes (.failure k) i last entered = { s with
      bulk := { s.bulk with segPhase := .none, state := .ended (.failed .lineFailure) }
      notices := s.notices.offer (.bulkEnd n (.failed .lineFailure) s.bulk.acked) } := by
  have hnot : ¬ s.wantsRetry (s.bulk.node.getD 0) s.bulk.attempts entered = true := by
    rw [State.wantsRetry_eq, hnode]
    exact fun hwants => h hwants.1
  exact (if_neg hnot).trans (State.endTransfer_eq (by exact hnode) _)

end

end

end Sys2Proof.Machine

namespace Sys2Proof
open Machine

/-- Settles O46: the result of R90 for each kind and outcome, with and without a retry and an entry to OFFLINE. -/
theorem demandOutcomesAnswerTheTags : Obligations.DemandOutcomesAnswerTheTags := by
  intro s o cls e rest output k code status nodeType block content t health out enters final gone lastly howner hfifo hnode
  have henters (x : LineOutcome) : (s.node o.addr).enters (s.cfg o.addr) x = true ↔
      ((s.node o.addr).take (s.cfg o.addr) x).health = .offline ∧ s.health o.addr ≠ .offline := by
    rw [NodeRt.enters, Bool.and_eq_true, bne_iff_ne, beq_iff_eq]
    exact and_comm
  have hstays {x : LineOutcome} (hx : x.isFailure = false) : (s.node o.addr).enters (s.cfg o.addr) x = false := by
    rw [Bool.eq_false_iff, Ne, NodeRt.enters_iff, hx]
    exact fun h => Bool.noConfusion h.1
  have hfinal {x : LineOutcome} {r : Result} {bytes : List Byte}
      (hentersNot : (s.node o.addr).enters (s.cfg o.addr) x = false)
      (hlast : ¬ (x.isFailure = true ∧ e.attempts < 1 + (s.cfg e.node).retryLimit.toNat))
      (hresult : (t x).outcomeResult e output x = (r, bytes)) : final x r.code bytes := by
    have h := State.deliver_demand_final (out := output) howner hfifo hentersNot hlast
    rw [show (s.deliver o output x).outcomeResult e output x = (r, bytes) from hresult] at h
    exact h
  have hdone {x : LineOutcome} {r : Result} {bytes : List Byte} (hx : x.isFailure = false)
      (hresult : (t x).outcomeResult e output x = (r, bytes)) : final x r.code bytes :=
    hfinal (hstays hx) (fun h => Bool.noConfusion (hx.symm.trans h.1)) hresult
  refine ⟨fun hkind => hdone (r := .ok) rfl ?_, fun hkind => hdone (r := .ok) rfl ?_,
    fun sent hkind => hdone (r := .ok) rfl ?_,
    fun hkind => hdone (r := .ok) rfl ?_, fun hkind => hdone (r := .refreshFailed) rfl ?_,
    fun hkind => hdone (r := .nodeError) rfl ?_, fun sent hkind => hdone (r := .nodeError) rfl ?_,
    fun hkind => hdone (r := .nodeError) rfl ?_, fun hnot hlast => ?last, fun hin honline => ?offline,
    fun hnot hwants => ?retry⟩
  case last =>
    have hover : ¬ ((LineOutcome.failure k).isFailure = true ∧ e.attempts < 1 + (s.cfg e.node).retryLimit.toNat) := by
      rw [hnode]
      exact fun h => Nat.not_lt.mpr hlast h.2
    have hentersNot := Bool.eq_false_iff.mpr (mt (henters (.failure k)).mp hnot)
    refine ⟨fun hkind => hfinal (r := .refreshFailed) hentersNot hover ?_,
      fun hkind => hfinal (r := .lineFailure) hentersNot hover ?_,
      fun sent hkind => hfinal (r := .lineFailure) hentersNot hover ?_,
      fun hkind => hfinal (r := .lineFailure) hentersNot hover ?_⟩
    all_goals simp only [State.outcomeResult, hkind]
    all_goals rfl
  case offline =>
    have hlastly {r : Result} {bytes : List Byte}
        (hresult : (t (.failure k)).outcomeResult e output (.failure k) = (r, bytes)) : lastly r.code bytes := by
      have h := State.deliver_enters_demand (out := output) ((henters (.failure k)).mpr hin) howner hfifo honline
      rw [show (s.deliver o output (.failure k)).outcomeResult e output (.failure k) = (r, bytes) from hresult] at h
      exact h
    refine ⟨fun hkind => hlastly (r := .refreshFailed) ?_, fun hkind => hlastly (r := .lineFailure) ?_,
      fun sent hkind => hlastly (r := .lineFailure) ?_, fun hkind => hlastly (r := .lineFailure) ?_⟩
    all_goals simp only [State.outcomeResult, hkind]
    all_goals rfl
  case retry =>
    have hentersNot := Bool.eq_false_iff.mpr (mt (henters (.failure k)).mp hnot)
    exact State.deliver_demand_retry howner hfifo hentersNot rfl (by rw [hnode]; exact hwants)
  all_goals simp only [State.outcomeResult, hkind]
  all_goals rfl

/-- Settles O47: the blocks' part in the entry to OFFLINE, then the owner's own part by owner. -/
theorem entryToOfflineReachesTheQueues : Obligations.EntryToOfflineReachesTheQueues := by
  intro s o output k t gone answers active ended health told h1 h30 hbefore hafter
  have henters : (s.node o.addr).enters (s.cfg o.addr) (.failure k) = true :=
    (State.deliver_enters_iff (out := output) h1 h30).mpr ⟨hbefore, hafter⟩
  have hactive : s.bulkActiveFor o.addr = true ↔ active := State.bulkActiveFor_iff
  have hblocks := State.blocksTake_returned_enters henters
  have hblocksBulk (h : active) : ((s.returned (.failure k)).blocksTake o.addr (.failure k)).bulk = ended := by
    rw [hblocks]
    exact if_pos (hactive.mpr h)
  have hblocksTold (h : active) : ((s.returned (.failure k)).blocksTake o.addr (.failure k)).notices = told := by
    rw [hblocks]
    exact if_pos (hactive.mpr h)
  have hblocksKept (h : ¬ active) : ((s.returned (.failure k)).blocksTake o.addr (.failure k)).bulk = s.bulk := by
    rw [hblocks]
    exact if_neg (mt hactive.mp h)
  have hblocksHealth (h : ¬ active) : ((s.returned (.failure k)).blocksTake o.addr (.failure k)).notices = health := by
    rw [hblocks]
    exact if_neg (mt hactive.mp h)
  have hothers (howner : o.owner ≠ .bulk) (hschedule : o.owner ≠ .schedule) :
      t.notices = ((s.returned (.failure k)).blocksTake o.addr (.failure k)).notices :=
    State.ownerTakes_notices hschedule howner
  have hschedule (howner : o.owner = .schedule) :
      t.notices = ((s.returned (.failure k)).blocksTake o.addr (.failure k)).notices ∨
        t.notices = ((s.returned (.failure k)).blocksTake o.addr (.failure k)).notices.offer .cycleOverrun := by
    have hdeliver : t = _ := State.deliver_schedule howner
    rw [hdeliver]
    exact State.scheduleTakes_notices _ _ _ _
  refine ⟨fun howner => State.deliver_enters_queue henters howner, fun cls e rest howner hfifo honline hnode => ?_,
    fun howner => ⟨fun h => ⟨(State.deliver_bulk howner).trans (hblocksBulk h), fun hnot => ?_, fun hsame => ?_⟩,
      fun h => ⟨(State.deliver_bulk howner).trans (hblocksKept h), fun hnot => ?_, fun hsame => ?_⟩⟩,
    fun howner h => ?_⟩
  · obtain ⟨hqueue, hlink⟩ := State.deliver_enters_demand (out := output) henters howner hfifo honline
    exact ⟨hqueue, _, hlink, by rw [List.map_map]; rfl⟩
  · rw [hothers howner hnot, hblocksTold h]
  · rw [← hblocksTold h]
    exact hschedule hsame
  · rw [hothers howner hnot, hblocksHealth h]
  · rw [← hblocksHealth h]
    exact hschedule hsame
  · have hdeliver : t = _ := State.deliver_bulkOwner howner
    have hbulk := hblocksBulk h
    have hnotices := hblocksTold h
    have hcancelSame : ended.cancelOnLine = s.bulk.cancelOnLine := rfl
    rw [hdeliver]
    by_cases hcancel : s.bulk.cancelOnLine = true
    · rw [State.bulkTakes_cancel (by rw [hbulk, hcancelSame, hcancel])]
      exact ⟨hnotices, fun _ => by rw [hbulk]; rfl, fun hnot => absurd hcancel (Bool.eq_false_iff.mp hnot)⟩
    · rw [Bool.not_eq_true] at hcancel
      have hended : ended.takesOutcome = false := by simp [Bulk.takesOutcome, ended]
      rw [State.bulkTakes_detached (by rw [hbulk, hcancelSame, hcancel]) (by rw [hbulk, hended])]
      exact ⟨hnotices, fun hyes => absurd hyes (Bool.eq_false_iff.mp hcancel), fun _ => by rw [hbulk]; rfl⟩

/-- Settles O34: a segment's outcome by its content, with the transfer ended first where its node enters OFFLINE. -/
theorem segmentOutcomesMoveTheTransfer : Obligations.SegmentOutcomesMoveTheTransfer := by
  intro s o i n last cancel data code k x b after fail enters wanted told ended howner hrequest haddr
  subst haddr
  have henters (x : LineOutcome) : (s.node o.addr).enters (s.cfg o.addr) x = true ↔ x.isFailure = true ∧ enters := by
    rw [NodeRt.enters_iff, ← NodeRt.raisedFail_eq]
    rfl
  have hdeliver (x : LineOutcome) : s.deliver o false x = ((s.returned x).blocksTake o.addr x).bulkTakes
      (.segment i last cancel data) x ((s.node o.addr).enters (s.cfg o.addr) x) := by
    rw [State.deliver_bulkOwner howner, hrequest]
  have hkept {x : LineOutcome} (h : b.state.active = false ∨ x.isFailure = false ∨ ¬ enters) :
      ((s.returned x).blocksTake o.addr x).bulk = b := by
    cases hin : (s.node o.addr).enters (s.cfg o.addr) x with
    | false => exact (State.blocksTake_returned_stays hin).2.2
    | true =>
      obtain ⟨hfailure, hyes⟩ := (henters x).mp hin
      have hidle : b.state.active = false := by
        rcases h with h | h | h
        · exact h
        · exact Bool.noConfusion (h.symm.trans hfailure)
        · exact absurd hyes h
      rw [State.blocksTake_returned_enters hin]
      exact if_neg fun hactive => Bool.noConfusion (hidle.symm.trans (State.bulkActiveFor_iff.mp hactive).2)
  refine ⟨fun hnode _ hcancel hphase hstate => ?segment, fun hcancel h => ?cancelFrame,
    fun hcancel hphase h => ?detached⟩
  case cancelFrame =>
    rw [hdeliver, State.bulkTakes_cancel (by rw [hkept h]; exact hcancel), hkept h]
    rfl
  case detached =>
    have hnot : b.takesOutcome = false := by simp [Bulk.takesOutcome, hphase]
    rw [hdeliver, State.bulkTakes_detached (by rw [hkept h]; exact hcancel) (by rw [hkept h]; exact hnot), hkept h]
    rfl
  case segment =>
    have htakes {x : LineOutcome} (hbulk : ((s.returned x).blocksTake o.addr x).bulk = b) :
        s.deliver o false x = ((s.returned x).blocksTake o.addr x).segmentTakes x i last
          ((s.node o.addr).enters (s.cfg o.addr) x) := by
      rw [hdeliver, State.bulkTakes_segment (by rw [hbulk]; exact hcancel) (by rw [hbulk]; exact hphase)
        (by rw [hbulk]; exact hstate)]
    have hreply {x : LineOutcome} (hvalid : x.isFailure = false) (hbyte : x.statusByte = none) :=
      State.blocksTake_unstatused (s := s) (o := o) hvalid hbyte
    have hnow (x : LineOutcome) : ((s.returned x).blocksTake o.addr x).now = s.now ∧
        ((s.returned x).blocksTake o.addr x).params = s.params := by
      rw [State.params, State.blocksTake_frame]
      exact ⟨rfl, rfl⟩
    obtain ⟨hackBulk, hackTold⟩ := hreply (x := .replied .segAck) rfl rfl
    obtain ⟨hbusyBulk, hbusyTold⟩ := hreply (x := .replied .segNakBusy) rfl rfl
    obtain ⟨hrejectBulk, hrejectTold⟩ := hreply (x := .replied .segNakReject) rfl rfl
    obtain ⟨herrorBulk, herrorTold⟩ := hreply (x := .nodeError code) rfl rfl
    obtain ⟨hbusyNow, hbusyParams⟩ := hnow (.replied .segNakBusy)
    refine ⟨fun hlast => ?_, fun hlast => ?_, fun hbusy => ?_, fun hbusy => ?_, ?_, ?_, fun hwanted => ?_,
      fun hnot hstays => ?_, fun hyes => ?_⟩
    · simp only [after]
      rw [htakes hackBulk, hlast, State.segmentTakes_ack_more]
      exact ⟨by rw [State.withBulk_bulk, hackBulk], hackTold⟩
    · simp only [after]
      rw [htakes hackBulk, hlast, State.segmentTakes_ack_last (by rw [hackBulk]; exact hnode)]
      exact ⟨by rw [hackBulk], by rw [hackBulk, hackTold]⟩
    · simp only [after]
      rw [htakes hbusyBulk, State.segmentTakes_busy_more (by rw [hbusyBulk]; exact hbusy)]
      exact ⟨by rw [State.withBulk_bulk, hbusyBulk, hbusyNow, hbusyParams]; rfl, hbusyTold⟩
    · simp only [after]
      rw [htakes hbusyBulk, State.segmentTakes_busy_last (by rw [hbusyBulk]; exact hnode) (by rw [hbusyBulk]; exact hbusy)]
      exact ⟨by rw [hbusyBulk], by rw [hbusyBulk, hbusyTold]⟩
    · simp only [after]
      rw [htakes hrejectBulk, State.segmentTakes_reject (by rw [hrejectBulk]; exact hnode)]
      exact ⟨by rw [hrejectBulk], by rw [hrejectBulk, hrejectTold]⟩
    · simp only [after]
      rw [htakes herrorBulk, State.segmentTakes_error (by rw [herrorBulk]; exact hnode)]
      exact ⟨by rw [herrorBulk], by rw [herrorBulk, herrorTold]⟩
    · have hstays := Bool.eq_false_iff.mpr fun h => hwanted.2 ((henters (.failure k)).mp h).2
      obtain ⟨hbulk, htold⟩ := State.blocksTake_failed hstays
      simp only [after]
      rw [htakes hbulk, hstays, State.segmentTakes_retry (by rw [hbulk]; exact hnode)
        (by rw [hbulk, State.blocksTake_cfg]; exact hwanted.1)]
      exact ⟨by rw [State.withBulk_bulk, hbulk], htold⟩
    · have hin := Bool.eq_false_iff.mpr fun h => hstays ((henters (.failure k)).mp h).2
      obtain ⟨hbulk, htold⟩ := State.blocksTake_failed hin
      simp only [after]
      rw [htakes hbulk, State.segmentTakes_failed (by rw [hbulk]; exact hnode)
        (by rw [hbulk, State.blocksTake_cfg]; exact fun h => hnot ⟨h, hstays⟩)]
      exact ⟨by rw [hbulk], by rw [hbulk, htold]⟩
    · have hin : (s.node o.addr).enters (s.cfg o.addr) (.failure k) = true := (henters _).mpr ⟨rfl, hyes⟩
      have hactive : s.bulkActiveFor o.addr = true := by
        rw [State.bulkActiveFor_iff]
        refine ⟨hnode, ?_⟩
        rcases hstate with hstate | ⟨c, hstate⟩ <;> rw [hstate] <;> rfl
      have hblocks := State.blocksTake_returned_enters hin
      have hbulk : ((s.returned (.failure k)).blocksTake o.addr (.failure k)).bulk =
          { b with state := .ended (.failed .nodeOffline), segPhase := .onLine } := by
        rw [hblocks]
        refine (if_pos hactive).trans ?_
        rw [if_neg (by rw [hphase]; decide), hphase]
      have htold : ((s.returned (.failure k)).blocksTake o.addr (.failure k)).notices =
          ended (.failed .nodeOffline) b.acked (s.notices.offer (.health o.addr 0)) := by
        rw [hblocks]
        exact if_pos hactive
      simp only [after]
      rw [hdeliver, State.bulkTakes_detached (by rw [hbulk]; exact hcancel) (by rw [hbulk]; rfl)]
      exact ⟨by rw [State.withBulk_bulk, hbulk], htold⟩

end Sys2Proof
end

section
/-! PROOFS. The arbitration: the first want that may be ordered. -/

namespace Sys2Proof.Machine

section
variable {s u : State} {o : Order}

/-! ### The end of the event -/

/-- An accepted order takes the line, and nothing is due after it. -/
theorem State.follow_acceptOrder (h : u.txSettled = true) (o : Order) : (u.acceptOrder o).follow = u.acceptOrder o := by
  have hsettled : (u.acceptOrder o).txSettled = true := by
    rw [State.acceptOrder_line]
    exact h
  rw [State.follow_of_decided (State.decided_of_busy (u.acceptOrder_busy o)), State.wake_settled hsettled]

theorem exec_arbitration_orders (hidle : s.line.phase = .idle) (h : s.arbitrate = u.acceptOrder o)
    (hsettled : u.txSettled = true) : exec .arbitration s = .next (u.acceptOrder o) := by
  rw [exec_arbitration_idle (LinePhase.isIdle_iff.mpr hidle), h, State.follow_acceptOrder hsettled]

theorem exec_arbitration_same {t : State} (hs : s.line.phase = .idle) (ht : t.line.phase = .idle)
    (h : s.arbitrate = t.arbitrate) : exec .arbitration s = exec .arbitration t := by
  rw [exec_arbitration_idle (LinePhase.isIdle_iff.mpr hs), exec_arbitration_idle (LinePhase.isIdle_iff.mpr ht), h]

/-! ### Places 1 to 5 (R122) -/

/-- No cancel may be ordered now: none is pending, or an order of the bulk unit's own is held (R115). -/
def Bulk.NoCancel (b : Bulk) : Prop :=
  b.cancel = none ∨ b.segPhase = .onLine ∨ b.segPhase = .detached ∨ b.cancelOnLine = true

/-- No segment may be ordered now (R106, R125, R126). -/
def State.NoSegment (s : State) : Prop :=
  s.segmentWant = false ∨
    (s.bulk.segPhase = .none ∧ s.scheduleWant = true ∧ s.sched.pace < s.tables.active.line.bulkPace.toNat)

/-- The NORMAL head may not be ordered now (R124, R126). -/
def State.NoNormal (s : State) : Prop :=
  s.headWant .normal = false ∨ ∃ x rest, s.queue.normal = x :: rest ∧ x.phase = .queued ∧ s.scheduleWant = true ∧
    s.sched.credit = 0

theorem State.arbitrateFive_safe (h : s.sched.safeBroadcast = true) : s.arbitrateFive = (s.orderSafe, true) := if_pos h

section
variable (hfree : s.sched.safeBroadcast = false)
include hfree

theorem State.arbitrateFive_urgent (h : s.headWant .urgent = true) : s.arbitrateFive = (s.orderHead .urgent, true) :=
  (if_neg (by rw [hfree]; nofun)).trans (if_pos h)

variable (hurgent : s.headWant .urgent = false)
include hurgent

theorem State.arbitrateFive_cancel {n i : Nat} (h : s.bulk.cancel = some (n, i)) (hheld : s.bulk.noOrderHeld = true) :
    s.arbitrateFive = if s.cancelTest n then (s.orderCancel n i, true)
      else (s.withBulk { s.bulk with cancel := none }).arbitrateLow := by
  simp only [State.arbitrateFive, hfree, hurgent, h, hheld, Bool.false_eq_true, if_false, if_true]

theorem State.arbitrateFive_low (h : s.bulk.NoCancel) : s.arbitrateFive = s.arbitrateLow := by
  simp only [State.arbitrateFive, hfree, hurgent, Bool.false_eq_true, if_false]
  split
  · rename_i n i hcancel
    have hheld : s.bulk.noOrderHeld = false := by
      rcases h with h | h | h | h
      · rw [h] at hcancel
        cases hcancel
      all_goals simp [Bulk.noOrderHeld, h]
    rw [hheld]
    rfl
  · rfl

end

theorem Bulk.noOrderHeld_of {b : Bulk} (honline : b.segPhase ≠ .onLine) (hdetached : b.segPhase ≠ .detached)
    (hcancel : b.cancelOnLine = false) : b.noOrderHeld = true := by
  simp [Bulk.noOrderHeld, honline, hdetached, hcancel]

/-- The pace lets a segment go exactly where it is a retry, no schedule want restricts, or the pace is reached. -/
theorem State.segmentAllowed_iff (h : s.segmentWant = true) : s.segmentAllowed = true ↔ ¬ s.NoSegment := by
  obtain ⟨-, hphase, -⟩ := State.segmentWant_iff.mp h
  unfold State.NoSegment State.segmentAllowed State.restricts State.params
  rcases hphase with hphase | hphase <;> simp [h, hphase, imp_iff_not_or]

theorem State.arbitrateLow_segment (hwant : s.segmentWant = true) (h : ¬ s.NoSegment) :
    s.arbitrateLow = (s.orderSegment, true) :=
  if_pos (by rw [hwant, (State.segmentAllowed_iff hwant).mpr h]; rfl)

theorem State.arbitrateLow_noSegment (h : s.NoSegment) : s.arbitrateLow =
    if s.headWant .normal && s.normalAllowed then (s.orderNormal, true) else (s, false) := by
  refine if_neg fun hboth => ?_
  obtain ⟨hwant, hallowed⟩ := (Bool.and_eq_true _ _).mp hboth
  exact (State.segmentAllowed_iff hwant).mp hallowed h

/-- The credit lets the NORMAL head go exactly where it is a retry, no schedule want restricts, or credit is left. -/
theorem State.normalAllowed_iff (h : s.headWant .normal = true) : s.normalAllowed = true ↔ ¬ s.NoNormal := by
  obtain ⟨x, rest, hfifo, hphase⟩ := State.headWant_iff.mp h
  have hnormal : s.queue.normal = x :: rest := hfifo
  unfold State.NoNormal State.normalAllowed State.restricts
  cases hx : x.phase with
  | onLine => exact absurd hx hphase
  | queued => simp [h, hnormal, hx, Nat.pos_iff_ne_zero, imp_iff_not_or]
  | retryPending => simp [h, hnormal, hx]

theorem State.arbitrateLow_normal (hsegment : s.NoSegment) (hwant : s.headWant .normal = true) (h : ¬ s.NoNormal) :
    s.arbitrateLow = (s.orderNormal, true) :=
  (State.arbitrateLow_noSegment hsegment).trans
    (if_pos (by rw [hwant, (State.normalAllowed_iff hwant).mpr h]; rfl))

theorem State.arbitrateLow_none (hsegment : s.NoSegment) (h : s.NoNormal) : s.arbitrateLow = (s, false) := by
  refine (State.arbitrateLow_noSegment hsegment).trans (if_neg fun hboth => ?_)
  obtain ⟨hwant, hallowed⟩ := (Bool.and_eq_true _ _).mp hboth
  exact (State.normalAllowed_iff hwant).mp hallowed h

/-! ### The whole arbitration (R121 to R123) -/

theorem State.arbitrate_ordered {t : State} (h : s.arbitrateFive = (t, true)) : s.arbitrate = t := by
  simp only [State.arbitrate, h, if_true]

section
variable (hfive : s.arbitrateFive = (s, false))
include hfive

theorem State.arbitrate_quiet (hwant : s.scheduleWant = false) : s.arbitrate = s := by
  simp only [State.arbitrate, hfive, hwant, Bool.false_eq_true, if_false, Bool.not_false, if_true]

theorem State.arbitrate_schedule (hwant : s.scheduleWant = true) (htest : s.scheduleTest = true) :
    s.arbitrate = s.orderSchedule := by
  simp only [State.arbitrate, hfive, hwant, htest, Bool.false_eq_true, if_false, Bool.not_true, if_true]

theorem State.arbitrate_dropped (hwant : s.scheduleWant = true) (htest : s.scheduleTest = false) :
    s.arbitrate = if s.dropSchedule.scheduleWant then s.dropSchedule.orderSchedule
      else s.dropSchedule.arbitrateFive.1 := by
  simp only [State.arbitrate, hfive, hwant, htest, Bool.false_eq_true, if_false, Bool.not_true]

end

/-- With no schedule want an arbitration is its first five places. -/
theorem State.arbitrate_unscheduled (hwant : s.scheduleWant = false) : s.arbitrate = s.arbitrateFive.1 := by
  rcases s.arbitrateFive_cases with ⟨hordered, -⟩ | ⟨hnone, hkept, -⟩
  · simp only [State.arbitrate, hordered, if_true]
  · have hsame : s.arbitrateFive.1.scheduleWant = false := by
      rcases hkept with h | h <;> rw [h] <;> exact hwant
    simp only [State.arbitrate, hnone, hsame, Bool.false_eq_true, if_false, Bool.not_false, if_true]

/-! ### What each ordering does (R9, R88, R106) -/

theorem State.orderHead_of_head {cls : QueueClass} {x : Entry} {rest : List Entry} (h : s.queue.fifo cls = x :: rest) :
    s.orderHead cls = (s.withQueue (s.queue.setFifo cls (x.ordered :: rest))).acceptOrder (x.order cls) := by
  simp only [State.orderHead, h, State.setHead_of_head h]

theorem State.orderNormal_of_head {x : Entry} {rest : List Entry} (h : s.queue.normal = x :: rest) :
    s.orderNormal = ({ s with
      queue := { s.queue with normal := x.ordered :: rest }
      sched := { s.sched with credit :=
        if x.phase = .queued ∧ s.scheduleWant = true then s.sched.credit - 1 else s.sched.credit } } : State).acceptOrder
        (x.order .normal) := by
  have hcredit : (if (s.queue.normal.head?.any fun e => e.phase == .queued) && s.restricts then s.sched.credit - 1
      else s.sched.credit) =
      if x.phase = .queued ∧ s.scheduleWant = true then s.sched.credit - 1 else s.sched.credit := by
    simp [h, State.restricts]
  rw [State.orderNormal, hcredit, State.orderHead_of_head (cls := .normal) (by exact h)]
  rfl

theorem StepKind.request_eq (k : StepKind) : k.request = if k = .probe then .status else .exchange := by
  cases k <;> rfl

theorem State.stepTest_iff {st : SchedStep} :
    s.stepTest st = true ↔ (st.kind = .probe ↔ s.health st.node = .offline) := by
  unfold State.stepTest
  cases st.kind <;> simp

theorem State.orderStep_eq (s : State) (st : SchedStep) : s.orderStep st = ({ s with
    nodes := if st.kind = .probe then
        bankSet s.nodes st.node { s.node st.node with countdown := (s.cfg st.node).probeInterval }
      else s.nodes
    sched := { s.sched with
      ready := none
      attached := some ⟨st, 1, false⟩
      spacing := if st.kind = .main ∧ 0 < s.tables.active.ilLen then s.sched.spacing + 1 else s.sched.spacing
      cycleStart := some (s.sched.cycleStart.getD s.now)
      boundaryMark := if s.sched.cycleStart = none then false else s.sched.boundaryMark
      credit := s.tables.active.line.demandShare.toNat
      pace := min 8 (s.sched.pace + 1) } } : State).acceptOrder
        ⟨if st.kind = .probe then .status else .exchange, st.node, .schedule, 1⟩ := by
  have hmark : (if s.sched.cycleStart.isNone then false else s.sched.boundaryMark) =
      if s.sched.cycleStart = none then false else s.sched.boundaryMark := by
    simp [Option.isNone_iff_eq_none]
  rw [State.orderStep, State.loadCountdown, StepKind.request_eq, State.orderedSched, hmark]
  split <;> rfl

theorem State.orderSchedule_ready {st : SchedStep} (h : s.sched.ready = some st) : s.orderSchedule = s.orderStep st := by
  simp only [State.orderSchedule, h]

theorem State.scheduleTest_ready {st : SchedStep} (h : s.sched.ready = some st) : s.scheduleTest = s.stepTest st := by
  simp only [State.scheduleTest, h]

theorem State.scheduleTest_retry {a : Attached} (hready : s.sched.ready = none) (h : s.sched.attached = some a) :
    s.scheduleTest = s.stepTest a.step := by
  simp only [State.scheduleTest, hready, h]

end

end Sys2Proof.Machine

namespace Sys2Proof
open Machine

/-- Settles O48: the places in order, each with the order it makes; a schedule want that fails its test is dropped first. -/
theorem arbitrationOrdersTheFirstWant : Obligations.ArbitrationOrdersTheFirstWant := by
  intro s hidle hsettled want free quietUrgent noCancel noSegment ordered noNormal firstAttempt passed
  have hlow (hfree : free) (hurgent : quietUrgent) (hcancel : noCancel) : s.arbitrateFive = s.arbitrateLow :=
    State.arbitrateFive_low hfree hurgent hcancel
  have hnone (hfree : free) (hurgent : quietUrgent) (hcancel : noCancel) (hsegment : noSegment) (hnormal : noNormal) :
      s.arbitrateFive = (s, false) :=
    (hlow hfree hurgent hcancel).trans (State.arbitrateLow_none hsegment hnormal)
  have hfirst (u : State) (st : SchedStep) : u.orderStep st = firstAttempt u st := u.orderStep_eq st
  have hdrop {u : State} (hfive : s.arbitrateFive = (s, false)) (hwant : want = true) (htest : s.scheduleTest = false)
      (hu : s.dropSchedule = u) (huidle : u.line.phase = .idle) (st' : SchedStep) :
      (u.scheduleWant = true → u.sched.ready = some st' →
        exec .arbitration s = .next (firstAttempt u st').follow) ∧
      (u.scheduleWant = false → exec .arbitration s = exec .arbitration u) := by
    have harb := State.arbitrate_dropped hfive hwant htest
    rw [hu] at harb
    refine ⟨fun huwant hready => ?_, fun huwant => ?_⟩
    · rw [exec_arbitration_idle (LinePhase.isIdle_iff.mpr hidle), harb, if_pos huwant,
        State.orderSchedule_ready hready, hfirst]
    · refine exec_arbitration_same hidle huidle (harb.trans ?_)
      rw [if_neg (by rw [huwant]; nofun), State.arbitrate_unscheduled huwant]
  refine ⟨fun hsafe => ?_, fun x rest hfree hfifo hphase => ?_, fun n i hfree hurgent hcancel h1 h2 h3 hoff hdis => ?_,
    fun n i hfree hurgent hcancel h1 h2 h3 hbad => ?_, ?segment,
    fun x rest hfree hurgent hcancel hsegment hfifo hphase hnormal => ?_,
    fun st hfree hurgent hcancel hsegment hnormal hwant hready htest => ?_,
    fun a hfree hurgent hcancel hsegment hnormal hwant hready hattached htest => ?_, ?ready, ?attached,
    fun hfree hurgent hcancel hsegment hnormal hwant happ => ?_⟩
  · exact exec_arbitration_orders hidle (State.arbitrate_ordered (State.arbitrateFive_safe hsafe)) hsettled
  · have hwant : s.headWant .urgent = true := State.headWant_iff.mpr ⟨x, rest, hfifo, hphase⟩
    have harb := State.arbitrate_ordered (State.arbitrateFive_urgent hfree hwant)
    exact exec_arbitration_orders hidle (harb.trans (State.orderHead_of_head (cls := .urgent) hfifo)) hsettled
  · have hpass : s.cancelTest n = true := by simp [State.cancelTest, hoff, hdis]
    have hfive := (State.arbitrateFive_cancel hfree hurgent hcancel (Bulk.noOrderHeld_of h1 h2 h3)).trans (if_pos hpass)
    exact exec_arbitration_orders hidle (State.arbitrate_ordered hfive) hsettled
  · have hfail : ¬ s.cancelTest n = true := by
      rcases hbad with h | h <;> simp [State.cancelTest, h]
    have hfive := (State.arbitrateFive_cancel hfree hurgent hcancel (Bulk.noOrderHeld_of h1 h2 h3)).trans (if_neg hfail)
    have hdropped : (s.withBulk { s.bulk with cancel := none }).arbitrateFive = _ :=
      State.arbitrateFive_low hfree hurgent (.inl rfl)
    refine exec_arbitration_same hidle hidle ?_
    change s.arbitrate = (s.withBulk { s.bulk with cancel := none }).arbitrate
    rw [State.arbitrate, State.arbitrate, hfive, hdropped]
  case segment =>
    intro n declared hfree hurgent hcancel hwant hallowed hnode hdeclared i
    have harb := State.arbitrate_ordered ((hlow hfree hurgent hcancel).trans (State.arbitrateLow_segment hwant hallowed))
    have horder : s.bulk.segmentOrder = ⟨.segment i (i + 1 == s.bulk.segCount) false
        ((List.range (min 32 (declared - i * 32))).map fun j => s.bulk.buffer.read (i * 32 + j)), n, .bulk,
        s.bulk.attempts + 1⟩ := by
      rw [Bulk.segmentOrder, Bulk.segmentData, hnode, hdeclared]
      rfl
    rw [State.orderSegment, horder] at harb
    exact exec_arbitration_orders hidle harb hsettled
  · have hwant : s.headWant .normal = true := State.headWant_iff.mpr ⟨x, rest, hfifo, hphase⟩
    have harb := State.arbitrate_ordered
      ((hlow hfree hurgent hcancel).trans (State.arbitrateLow_normal hsegment hwant hnormal))
    exact exec_arbitration_orders hidle (harb.trans (State.orderNormal_of_head hfifo)) hsettled
  · have hpass : s.scheduleTest = true := (State.scheduleTest_ready hready).trans (State.stepTest_iff.mpr htest)
    have harb := State.arbitrate_schedule (hnone hfree hurgent hcancel hsegment hnormal) hwant hpass
    exact exec_arbitration_orders hidle (harb.trans ((State.orderSchedule_ready hready).trans (hfirst s st))) hsettled
  · have hpass : s.scheduleTest = true := (State.scheduleTest_retry hready hattached).trans (State.stepTest_iff.mpr htest)
    have harb := State.arbitrate_schedule (hnone hfree hurgent hcancel hsegment hnormal) hwant hpass
    have horder : s.orderSchedule = s.orderStepRetry a := by simp only [State.orderSchedule, hready, hattached]
    rw [horder, State.orderStepRetry, StepKind.request_eq] at harb
    exact exec_arbitration_orders hidle harb hsettled
  case ready =>
    intro st st' hfree hurgent hcancel hsegment hnormal hwant hready hfails u
    have htest : s.scheduleTest = false :=
      (State.scheduleTest_ready hready).trans (Bool.eq_false_iff.mpr (mt State.stepTest_iff.mp hfails))
    have hpassed : s.passStep st = passed st := rfl
    have hu : s.dropSchedule = u := by
      simp only [State.dropSchedule, hready, State.dropReady, hpassed]
      rfl
    have huidle : u.line.phase = .idle := by
      simp only [u]
      rw [State.walk_frame]
      exact hidle
    exact hdrop (hnone hfree hurgent hcancel hsegment hnormal) hwant htest hu huidle st'
  case attached =>
    intro a st' hfree hurgent hcancel hsegment hnormal hwant hready hattached hfails u
    have htest : s.scheduleTest = false :=
      (State.scheduleTest_retry hready hattached).trans (Bool.eq_false_iff.mpr (mt State.stepTest_iff.mp hfails))
    have hpassed : s.passStep a.step = passed a.step := rfl
    have hu : s.dropSchedule = u := by
      simp only [State.dropSchedule, hready, hattached, State.stepFinal, hpassed]
      rfl
    have huidle : u.line.phase = .idle := by
      simp only [u]
      rw [State.walk_frame]
      exact hidle
    exact hdrop (hnone hfree hurgent hcancel hsegment hnormal) hwant htest hu huidle st'
  · have harb := State.arbitrate_quiet (hnone hfree hurgent hcancel hsegment hnormal) hwant
    have hquiet : s.anyWant = false := by
      have h := s.arbitrate_cases
      rw [harb, hidle] at h
      exact h.resolve_left nofun
    have hdecided : s.decided = true := by
      simp [State.decided, State.arbitrationDue, hquiet, happ]
    rw [exec_arbitration_idle (LinePhase.isIdle_iff.mpr hidle), harb, State.follow_of_decided hdecided,
      State.wake_settled hsettled]

end Sys2Proof
end
